-- ==== Sys2Proof/Word.lean ====
section
/-!
DEFINITION. The words the wire and the pins carry. Counts, amounts, times and temperatures are `Nat` and `Int` in this
model (R1: whole numbers, no loss of range); a bit vector stands only where the manual numbers bits.
-/

namespace Sys2Proof

/-- One byte of a frame or a reply. -/
abbrev Byte := BitVec 8

/-- Two bytes of a frame, most significant byte first (R167). -/
abbrev Word := BitVec 16

/-- A nine-bit notice set: bits 0 to 7 are LOST, EXPIRED, STARVE, GUARD, SHORTFALL, MODE, REGIME and SETUP, bit 8 is
ALLOWANCE (R167: byte 1 bits 0 to 7 and byte 0 bit 0 of the two bytes on the wire). -/
abbrev NoticeSet := BitVec 9

end Sys2Proof
end

