-- ==== Sys2Proof/Syntax.lean ====
section
/-!
DEFINITION. The commands: one constructor of `Instr` for each row of spec/opcode_table.json, and the names its operands use.

A frame's operands are the values its bytes carry, not yet checked (R166, R167): checking them is the owning block's work.
Every frame also carries what was clocked: `extra` is the number of SCK cycles beyond the 96 of its last twelve whole bytes
(the bytes before them, and the bits of a last byte that did not reach eight, R162); a short frame's `clocks` is all of its
SCK cycles, fewer than 96.
-/

namespace Sys2Proof

/-- The three SPI target ports (10, R162). -/
inductive Port where
  | M | B | C
deriving DecidableEq, Repr

/-- The three zones, numbered MOTOR 0, BATTERY 1, CABIN 2 (00, Zones and slots). -/
inductive Zone where
  | motor | battery | cabin
deriving DecidableEq, Repr

/-- The two liquid loops, which are also the flow channels 0 and 1 (R103). -/
inductive Loop where
  | motor | battery
deriving DecidableEq, Repr

/-- The seven temperature channels, in the order of their numbers 0 to 6 (R87). -/
inductive TempCh where
  | tmOut | tmIn | tbOut | tbIn | tc | ta | tr
deriving DecidableEq, Repr

/-- The six PWM channels, in the order of their numbers 0 to 5 (R133). -/
inductive PwmCh where
  | pumpM | pumpB | fan | comp | heatC | heatB
deriving DecidableEq, Repr

/-- The commands the part takes: frames, resets, pin events and expiries. -/
inductive Instr where
  /-- NOP frame (R170). -/
  | nop (p : Port) (extra : Nat)
  /-- POST frame: slot in ARG; sense, tier, weight, asked and lease as the data carry them (R5, R167). -/
  | post (p : Port) (extra : Nat) (slot sense tier weight : Byte) (asked : Word) (lease : Byte)
  /-- RENEW frame: a slot set in ARG (R11). -/
  | renew (p : Port) (extra : Nat) (slots : Byte)
  /-- DROP frame: a slot set in ARG (R12). -/
  | drop (p : Port) (extra : Nat) (slots : Byte)
  /-- ALLOW frame: a value in eu and a lease in seconds (R44). -/
  | allow (p : Port) (extra : Nat) (value : Word) (lease : Byte)
  /-- VOTE frame: the vote in ARG (R71). -/
  | vote (p : Port) (extra : Nat) (v : Byte)
  /-- SETP frame: an id in ARG, a value in data 0 and 1, and a pair's second half in data 2 and 3 (R151, R167). -/
  | setp (p : Port) (extra : Nat) (id : Byte) (first second : Word)
  /-- GETP frame: an id in ARG (R155). -/
  | getp (p : Port) (extra : Nat) (id : Byte)
  /-- START frame (R156). -/
  | start (p : Port) (extra : Nat)
  /-- UNSTART frame (R156). -/
  | unstart (p : Port) (extra : Nat)
  /-- FORCE frame whose release option is 0: a channel in ARG and a duty (R145). -/
  | force (p : Port) (extra : Nat) (ch : Byte) (duty : Word)
  /-- FORCE frame whose release option is not 0: a channel in ARG (R146). -/
  | forceRelease (p : Port) (extra : Nat) (ch : Byte)
  /-- CLEARVALVE frame (R68). -/
  | clearvalve (p : Port) (extra : Nat)
  /-- READ frame: an object class in ARG and an index in data 0, bit 7 of which selects the part (R174, R175). -/
  | read (p : Port) (extra : Nat) (cls : Byte) (index : Byte)
  /-- NEXT frame (R177). -/
  | next (p : Port) (extra : Nat)
  /-- ACK frame: a notice set in data 0 and 1 (R169). -/
  | ack (p : Port) (extra : Nat) (set : Word)
  /-- ENABLE frame: a notice set in data 0 and 1 (R170). -/
  | enable (p : Port) (extra : Nat) (set : Word)
  /-- A good frame whose byte 0 is no command code (R165). -/
  | unknown (p : Port) (extra : Nat) (code : Byte)
  /-- A frame of fewer than twelve whole bytes (R163). -/
  | shortFrame (p : Port) (clocks : Fin 96)
  /-- A frame whose last twelve whole bytes, given here, fail the CRC (R163, R165). -/
  | badCrc (p : Port) (extra : Nat) (frame : Vector Byte 12)
  /-- Power-on reset, at its end (R172, R173). -/
  | powerOnReset
  /-- Reset by RESET_N, at its end (R172, R173). -/
  | resetLineReset
  /-- Supply-dip reset, at its end (R172, R173). -/
  | supplyDipReset
  /-- The lease of a posted slot runs out (R14). -/
  | leaseExpiry (z : Zone) (slot : Fin 4)
  /-- The cycle timer runs out (R23). -/
  | cycleExpiry
  /-- The lease of a granted allowance runs out (R46). -/
  | allowanceLeaseExpiry
  /-- The valve's dwell timer runs out (R59). -/
  | dwellExpiry
  /-- The travel timer runs out in TRAVEL (R64). -/
  | travelTimeout
  /-- The travel timer runs out in RETRY_WAIT (R65). -/
  | retryAttempt
  /-- VALVE_AT becomes asserted (R63). -/
  | valveAtAsserted
  /-- VALVE_AT becomes deasserted (R62, R66). -/
  | valveAtDeasserted
  /-- HV_READY rises (R73, R80). -/
  | hvReadyRise
  /-- HV_READY falls (R73). -/
  | hvReadyFall
  /-- The prime timer runs out (R76). -/
  | primeTimerExpiry
  /-- The dormant timer runs out (R79). -/
  | dormantTimerExpiry
  /-- A port's link timer runs out (R171). -/
  | linkTimerExpiry (p : Port)
  /-- A temperature channel completes a conversion with a 12-bit code (R89). -/
  | conversion (ch : TempCh) (code : BitVec 12)
  /-- A channel's hold timer runs out (R97). -/
  | holdExpiry (ch : TempCh)
  /-- A rising edge on a flow input, stamped with the part's microsecond time base as it stands when the edge is taken (R104). `label`
is the sender's own mark on the edge, which the part does not read (log 8). -/
  | flowEdge (l : Loop) (label : Nat)
  /-- A flow channel's stall timer runs out (R106). -/
  | stallExpiry (l : Loop)
  /-- A PWM channel's period boundary (R135). -/
  | periodBoundary (ch : PwmCh)
deriving DecidableEq, Repr

end Sys2Proof
end

