-- ==== Sys2Proof/Config.lean ====
section
/-!
DEFINITION. What an implementation fixes and what the manual leaves open: the tick of the time base (log 1) and the order in
which expiries that fall in one microsecond are taken (log 3), a free value.
-/

namespace Sys2Proof.Config

/-- A timer of the part: stopped, or the microseconds it still has to run. A timer at 0 has run out, and its expiry is due. -/
abbrev Timer := Option Nat

/-- Microseconds in one tick of the model's time: a step on an empty queue (log 1, DESIGN CHOICE). -/
def tickMicros : Nat := 1

/-- Whether the first of two expiries that fall due at one moment is taken before the second. The manual gives the outcome of
either order and fixes none (R15, R46), so this has no body: a free value (log 3). -/
opaque takenFirst : Nat → Instr → Instr → Bool

end Sys2Proof.Config
end

