-- ==== Sys2Proof/Machine/Params.lean ====
section
/-!
DEFINITION. The parameter table of R149: a name for each of the one hundred parameters, its id, owner, range, default and kind.
-/

namespace Sys2Proof.Machine

/-- The one hundred parameters (R149). -/
inductive Param where
  | cycleRun | cyclePark | compMax | compMin | cop | trDerate | trCutoff | ptcMax | radK | radMax | scavK | scavMax
  | safeAllow | dwell | travelMax | retryDelay | seriesMargin | seriesSpread | scavMargin | starveLimit | dormantDelay
  | linkTimeout | filterK | holdTime | recoverCount
  | convPt (i : Fin 8)
  | fanMin
  | compMap (i : Fin 4)
  | fanMap (i : Fin 4)
  | pwmPeriodComp | pwmPeriodFan | pwmPeriodHeat | slewComp | slewFan | slewHeat
  | high (z : Zone) | low (z : Zone) | hyst (z : Zone) | guardSelect (z : Zone) | guardExpect (z : Zone)
  | guardAction (z : Zone) | synthSense (z : Zone) | synthAmount (z : Zone)
  | kFlow (l : Loop) | avg (l : Loop) | stallTime (l : Loop) | cpv (l : Loop) | shortPct (l : Loop)
  | shortCycles (l : Loop) | pumpMin (l : Loop)
  | pumpMap (l : Loop) (i : Fin 4)
  | pwmPeriodPump (l : Loop) | slewPump (l : Loop)
  | pumpChargeMin | primeTime
deriving DecidableEq, Repr

/-- What values a parameter takes and how a SETP of it is judged (R149, R152). -/
inductive Domain where
  /-- A number, unsigned on the wire, clamped to lo to hi. -/
  | num (lo hi : Nat)
  /-- A temperature, signed on the wire, clamped to lo to hi (log 13). -/
  | temp (lo hi : Int)
  /-- A conversion point: a code and a temperature, each half clamped. -/
  | convPair
  /-- A map point: x in hu and y in per mille, each half clamped. -/
  | mapPair
  /-- Enumerated: one of the values listed, refused otherwise. -/
  | oneOf (vals : List Nat)
  /-- A set of the five conditions, refused if another bit is set. -/
  | condSet
  /-- An expectation for each of the five conditions; the other bits are ignored and stored as 0. -/
  | condExpect
deriving DecidableEq, Repr

/-- One row of the parameter table. `default` is none for a required parameter; `live` says the kind. -/
structure ParamRow where
  domain : Domain
  default : Option Int
  live : Bool
deriving DecidableEq, Repr

/-- The first id of a zone's block (R149). -/
def zoneBase : Zone → Nat
  | .motor => 0x40
  | .battery => 0x60
  | .cabin => 0x80

/-- The zone of a liquid loop. -/
def loopZone : Loop → Zone
  | .motor => .motor
  | .battery => .battery

/-- A parameter's one-byte id (R149). -/
def Param.id : Param → Nat
  | .cycleRun => 0x01
  | .cyclePark => 0x02
  | .compMax => 0x03
  | .compMin => 0x04
  | .cop => 0x05
  | .trDerate => 0x06
  | .trCutoff => 0x07
  | .ptcMax => 0x08
  | .radK => 0x09
  | .radMax => 0x0A
  | .scavK => 0x0B
  | .scavMax => 0x0C
  | .safeAllow => 0x0D
  | .dwell => 0x0E
  | .travelMax => 0x0F
  | .retryDelay => 0x10
  | .seriesMargin => 0x11
  | .seriesSpread => 0x12
  | .scavMargin => 0x13
  | .starveLimit => 0x14
  | .dormantDelay => 0x15
  | .linkTimeout => 0x16
  | .filterK => 0x17
  | .holdTime => 0x18
  | .recoverCount => 0x19
  | .convPt i => 0x1A + i.val
  | .fanMin => 0x22
  | .compMap i => 0x23 + i.val
  | .fanMap i => 0x27 + i.val
  | .pwmPeriodComp => 0x2B
  | .pwmPeriodFan => 0x2C
  | .pwmPeriodHeat => 0x2D
  | .slewComp => 0x2E
  | .slewFan => 0x2F
  | .slewHeat => 0x30
  | .high z => zoneBase z
  | .low z => zoneBase z + 0x01
  | .hyst z => zoneBase z + 0x02
  | .guardSelect z => zoneBase z + 0x03
  | .guardExpect z => zoneBase z + 0x04
  | .guardAction z => zoneBase z + 0x05
  | .synthSense z => zoneBase z + 0x06
  | .synthAmount z => zoneBase z + 0x07
  | .kFlow l => zoneBase (loopZone l) + 0x08
  | .avg l => zoneBase (loopZone l) + 0x09
  | .stallTime l => zoneBase (loopZone l) + 0x0A
  | .cpv l => zoneBase (loopZone l) + 0x0B
  | .shortPct l => zoneBase (loopZone l) + 0x0C
  | .shortCycles l => zoneBase (loopZone l) + 0x0D
  | .pumpMin l => zoneBase (loopZone l) + 0x0E
  | .pumpMap l i => zoneBase (loopZone l) + 0x0F + i.val
  | .pwmPeriodPump l => zoneBase (loopZone l) + 0x13
  | .slewPump l => zoneBase (loopZone l) + 0x14
  | .pumpChargeMin => 0x75
  | .primeTime => 0x76

/-- The zone that owns a parameter; none for a SHARED one (R149). -/
def Param.owner : Param → Option Zone
  | .high z => some z
  | .low z => some z
  | .hyst z => some z
  | .guardSelect z => some z
  | .guardExpect z => some z
  | .guardAction z => some z
  | .synthSense z => some z
  | .synthAmount z => some z
  | .kFlow l => some (loopZone l)
  | .avg l => some (loopZone l)
  | .stallTime l => some (loopZone l)
  | .cpv l => some (loopZone l)
  | .shortPct l => some (loopZone l)
  | .shortCycles l => some (loopZone l)
  | .pumpMin l => some (loopZone l)
  | .pumpMap l _ => some (loopZone l)
  | .pwmPeriodPump l => some (loopZone l)
  | .slewPump l => some (loopZone l)
  | .pumpChargeMin => some .battery
  | .primeTime => some .battery
  | .cycleRun | .cyclePark | .compMax | .compMin | .cop | .trDerate | .trCutoff | .ptcMax | .radK | .radMax | .scavK
  | .scavMax | .safeAllow | .dwell | .travelMax | .retryDelay | .seriesMargin | .seriesSpread | .scavMargin
  | .starveLimit | .dormantDelay | .linkTimeout | .filterK | .holdTime | .recoverCount | .convPt _ | .fanMin
  | .compMap _ | .fanMap _ | .pwmPeriodComp | .pwmPeriodFan | .pwmPeriodHeat | .slewComp | .slewFan | .slewHeat => none

/-- A parameter's row of the table (R149). -/
def Param.row : Param → ParamRow
  | .cycleRun => ⟨.oneOf [100, 200, 500, 1000], some 200, false⟩
  | .cyclePark => ⟨.oneOf [100, 200, 500, 1000], some 1000, false⟩
  | .compMax => ⟨.num 0 480, none, true⟩
  | .compMin => ⟨.num 0 120, some 20, true⟩
  | .cop => ⟨.num 8 40, some 20, true⟩
  | .trDerate => ⟨.temp 0 1500, some 1000, true⟩
  | .trCutoff => ⟨.temp 0 1500, some 1150, true⟩
  | .ptcMax => ⟨.num 0 240, none, true⟩
  | .radK => ⟨.num 0 255, none, false⟩
  | .radMax => ⟨.num 0 480, some 200, false⟩
  | .scavK => ⟨.num 0 255, some 0, false⟩
  | .scavMax => ⟨.num 0 240, some 80, false⟩
  | .safeAllow => ⟨.num 0 1600, some 60, true⟩
  | .dwell => ⟨.num 10 600, some 30, true⟩
  | .travelMax => ⟨.num 2 60, some 20, false⟩
  | .retryDelay => ⟨.num 5 120, some 30, false⟩
  | .seriesMargin => ⟨.num 0 300, some 50, true⟩
  | .seriesSpread => ⟨.num 0 500, some 150, true⟩
  | .scavMargin => ⟨.num 0 300, some 80, true⟩
  | .starveLimit => ⟨.num 5 255, some 25, true⟩
  | .dormantDelay => ⟨.num 10 600, some 120, true⟩
  | .linkTimeout => ⟨.num 1 10, some 3, true⟩
  | .filterK => ⟨.num 0 4, some 2, false⟩
  | .holdTime => ⟨.num 1 20, some 4, false⟩
  | .recoverCount => ⟨.num 1 15, some 4, false⟩
  | .convPt _ => ⟨.convPair, none, false⟩
  | .fanMin => ⟨.num 0 1000, some 100, true⟩
  | .compMap _ => ⟨.mapPair, none, false⟩
  | .fanMap _ => ⟨.mapPair, none, false⟩
  | .pwmPeriodComp => ⟨.num 40 50000, some 1000, false⟩
  | .pwmPeriodFan => ⟨.num 40 50000, some 1000, false⟩
  | .pwmPeriodHeat => ⟨.num 40 50000, some 1000, false⟩
  | .slewComp => ⟨.num 1 1000, some 50, true⟩
  | .slewFan => ⟨.num 1 1000, some 50, true⟩
  | .slewHeat => ⟨.num 1 1000, some 50, true⟩
  | .high _ => ⟨.temp (-400) 1500, none, true⟩
  | .low _ => ⟨.temp (-400) 1500, none, true⟩
  | .hyst _ => ⟨.num 5 100, some 20, true⟩
  | .guardSelect _ => ⟨.condSet, some 0, true⟩
  | .guardExpect _ => ⟨.condExpect, some 0, true⟩
  | .guardAction _ => ⟨.oneOf [0, 1, 2], some 0, true⟩
  | .synthSense .motor => ⟨.oneOf [0], some 0, true⟩
  | .synthSense .battery => ⟨.oneOf [0, 1], some 0, true⟩
  | .synthSense .cabin => ⟨.oneOf [0, 1], some 0, true⟩
  | .synthAmount _ => ⟨.num 1 480, some 40, true⟩
  | .kFlow _ => ⟨.num 1 65535, none, false⟩
  | .avg _ => ⟨.oneOf [1, 4, 16], some 4, false⟩
  | .stallTime _ => ⟨.num 1 10, some 4, false⟩
  | .cpv _ => ⟨.num 1000 5000, some 3600, false⟩
  | .shortPct _ => ⟨.num 10 90, some 50, true⟩
  | .shortCycles _ => ⟨.num 3 255, some 10, true⟩
  | .pumpMin _ => ⟨.num 0 1000, some 200, true⟩
  | .pumpMap _ _ => ⟨.mapPair, none, false⟩
  | .pwmPeriodPump _ => ⟨.num 40 50000, some 1000, false⟩
  | .slewPump _ => ⟨.num 1 1000, some 50, true⟩
  | .pumpChargeMin => ⟨.num 0 1000, some 600, true⟩
  | .primeTime => ⟨.num 2 30, some 5, false⟩

/-- Parameters that are counts up to 255, one byte in a reply: numbers without a unit, and whole seconds, half-seconds and cycles,
whose range ends at 255 or below. Of the kinds that R152 lists, temperatures, amounts, duties and the shorter times take two bytes,
and so does a count that can pass 255; enumerated values, sets and pairs have a layout of their own (R167, log 12). -/
def Param.oneByte : Param → Bool
  | .cop | .radK | .scavK | .starveLimit | .filterK | .recoverCount | .shortPct _ | .shortCycles _ => true
  | .travelMax | .retryDelay | .linkTimeout | .holdTime | .stallTime _ | .primeTime => true
  | .cycleRun | .cyclePark | .compMax | .compMin | .trDerate | .trCutoff | .ptcMax | .radMax | .scavMax | .safeAllow | .dwell
  | .seriesMargin | .seriesSpread | .scavMargin | .dormantDelay | .convPt _ | .fanMin | .compMap _ | .fanMap _ | .pwmPeriodComp
  | .pwmPeriodFan | .pwmPeriodHeat | .slewComp | .slewFan | .slewHeat | .high _ | .low _ | .hyst _ | .guardSelect _
  | .guardExpect _ | .guardAction _ | .synthSense _ | .synthAmount _ | .kFlow _ | .avg _ | .cpv _ | .pumpMin _ | .pumpMap _ _
  | .pwmPeriodPump _ | .slewPump _ | .pumpChargeMin => false

/-- A required parameter has no default (R149). -/
def Param.required (q : Param) : Bool := q.row.default.isNone

/-- The shared parameters, ids $01 to $30 in order (R149). -/
def sharedParams : List Param :=
  [.cycleRun, .cyclePark, .compMax, .compMin, .cop, .trDerate, .trCutoff, .ptcMax, .radK, .radMax, .scavK, .scavMax,
   .safeAllow, .dwell, .travelMax, .retryDelay, .seriesMargin, .seriesSpread, .scavMargin, .starveLimit, .dormantDelay,
   .linkTimeout, .filterK, .holdTime, .recoverCount,
   .convPt 0, .convPt 1, .convPt 2, .convPt 3, .convPt 4, .convPt 5, .convPt 6, .convPt 7, .fanMin,
   .compMap 0, .compMap 1, .compMap 2, .compMap 3, .fanMap 0, .fanMap 1, .fanMap 2, .fanMap 3,
   .pwmPeriodComp, .pwmPeriodFan, .pwmPeriodHeat, .slewComp, .slewFan, .slewHeat]

/-- The parameters every zone block has, offsets $00 to $07 in order (R149). -/
def zoneParams (z : Zone) : List Param :=
  [.high z, .low z, .hyst z, .guardSelect z, .guardExpect z, .guardAction z, .synthSense z, .synthAmount z]

/-- The parameters of a liquid loop's block, offsets $08 to $14 in order (R149). -/
def loopParams (l : Loop) : List Param :=
  [.kFlow l, .avg l, .stallTime l, .cpv l, .shortPct l, .shortCycles l, .pumpMin l,
   .pumpMap l 0, .pumpMap l 1, .pumpMap l 2, .pumpMap l 3, .pwmPeriodPump l, .slewPump l]

/-- All one hundred parameters in ascending order of id (R149). -/
def allParams : List Param :=
  sharedParams ++ (zoneParams .motor ++ loopParams .motor)
    ++ (zoneParams .battery ++ loopParams .battery ++ [.pumpChargeMin, .primeTime]) ++ zoneParams .cabin

/-- The parameter of an id; none for an unknown id (R149). -/
def Param.ofId (id : Nat) : Option Param := allParams.find? (fun q => q.id == id)

/-- The place of a parameter among the one hundred, counted in ascending order of id. -/
def Param.place (q : Param) : Fin 100 :=
  Fin.ofNat 100 (match q.owner with
    | none => q.id - 0x01
    | some .motor => q.id - 0x40 + 48
    | some .battery => q.id - 0x60 + 69
    | some .cabin => q.id - 0x80 + 92)

end Sys2Proof.Machine
end

