-- ==== Sys2Proof/Machine/Wire.lean ====
section
/-!
DEFINITION. Bytes on the wire: byte order and two's complement (R167), the CRC (R163), and the command codes (R167).
-/

namespace Sys2Proof.Machine

/-- One bit into the CRC-8 register: generator x^8 + x^2 + x + 1 (R163). -/
def crcShift (r : Byte) : Byte :=
  if r.msb then (r <<< 1) ^^^ 0x07#8 else r <<< 1

/-- One byte into the CRC-8 register, most significant bit first (R163). -/
def crcByte (r b : Byte) : Byte :=
  crcShift (crcShift (crcShift (crcShift (crcShift (crcShift (crcShift (crcShift (r ^^^ b))))))))

/-- The CRC-8 of a run of bytes: initial value $FF, no reflection, no final inversion (R163). -/
def crc8 (bytes : List Byte) : Byte :=
  bytes.foldl crcByte 0xFF#8

/-- The bits of a byte, most significant first (R162, R164). -/
def byteBits (b : Byte) : List Bool :=
  [b.getLsbD 7, b.getLsbD 6, b.getLsbD 5, b.getLsbD 4, b.getLsbD 3, b.getLsbD 2, b.getLsbD 1, b.getLsbD 0]

/-- A byte from its bits, most significant first (R162). -/
def byteOfBits (bits : List Bool) : Byte := bits.foldl (fun b x => (b <<< 1) ||| (if x then 1#8 else 0#8)) 0#8

/-- The most significant byte of a word. -/
def hiByte (w : Word) : Byte := (w >>> 8).setWidth 8

/-- The least significant byte of a word. -/
def loByte (w : Word) : Byte := w.setWidth 8

/-- A word from its two bytes, the most significant one first (R167). -/
def mkWord (hi lo : Byte) : Word := hi ++ lo

/-- A quantity of one byte. -/
def u8 (n : Nat) : List Byte := [BitVec.ofNat 8 n]

/-- A quantity of two bytes, most significant first (R167). -/
def u16 (n : Nat) : List Byte := [hiByte (BitVec.ofNat 16 n), loByte (BitVec.ofNat 16 n)]

/-- A signed quantity of two bytes in two's complement (R167). -/
def s16 (v : Int) : List Byte := [hiByte (BitVec.ofInt 16 v), loByte (BitVec.ofInt 16 v)]

/-- A flag in one byte: 1 when set, true, asserted, measured, active or standing (log 11, DEDUCED). -/
def flagByte (b : Bool) : List Byte := [if b then 1#8 else 0#8]

/-- The nine data bytes of a reply from the fields of an object: cut at nine, filled with $00 (R165, R175). -/
def packData (l : List Byte) : Vector Byte 9 :=
  ⟨⟨(l ++ List.replicate 9 0#8).take 9⟩, by simp⟩

/-- Whole seconds remaining, rounded up (R13, R44, R54): a stopped timer reads 0, and a running one reads 1 in its last second, up
to the moment its expiry is taken. -/
def ceilSeconds : Option Nat → Nat
  | none => 0
  | some us => max 1 ((us + 999999) / 1000000)

/-- A timer that has run out: its expiry is due (log 2). -/
def ranOut (t : Option Nat) : Bool := t == some 0

/-- Seconds as microseconds. -/
def seconds (n : Nat) : Nat := n * 1000000

/-- Half-seconds as microseconds (R95, R104). -/
def halfSeconds (n : Nat) : Nat := n * 500000

/-- Milliseconds as microseconds. -/
def millis (n : Nat) : Nat := n * 1000

/-- The command code of a good frame's command (R167); none for a command that is no good known frame. -/
def codeOf : Instr → Option Byte
  | .nop .. => some 0x01#8
  | .post .. => some 0x02#8
  | .renew .. => some 0x03#8
  | .drop .. => some 0x04#8
  | .allow .. => some 0x05#8
  | .vote .. => some 0x06#8
  | .setp .. => some 0x07#8
  | .getp .. => some 0x08#8
  | .start .. => some 0x09#8
  | .unstart .. => some 0x0A#8
  | .force .. => some 0x0B#8
  | .forceRelease .. => some 0x0B#8
  | .clearvalve .. => some 0x0C#8
  | .read .. => some 0x0D#8
  | .next .. => some 0x0E#8
  | .ack .. => some 0x0F#8
  | .enable .. => some 0x10#8
  | .unknown _ _ c => some c
  | .shortFrame .. => none
  | .badCrc .. => none
  | .powerOnReset => none
  | .resetLineReset => none
  | .supplyDipReset => none
  | .leaseExpiry .. => none
  | .cycleExpiry => none
  | .allowanceLeaseExpiry => none
  | .dwellExpiry => none
  | .travelTimeout => none
  | .retryAttempt => none
  | .valveAtAsserted => none
  | .valveAtDeasserted => none
  | .hvReadyRise => none
  | .hvReadyFall => none
  | .primeTimerExpiry => none
  | .dormantTimerExpiry => none
  | .linkTimerExpiry .. => none
  | .conversion .. => none
  | .holdExpiry .. => none
  | .flowEdge .. => none
  | .stallExpiry .. => none
  | .periodBoundary .. => none

/-- A command code the part knows: $01 to $10 (R167). -/
def knownCode (c : Byte) : Bool := 1 ≤ c.toNat && c.toNat ≤ 16

end Sys2Proof.Machine
end

