-- ==== Sys2Proof/Machine/State.lean ====
section
/-!
DEFINITION. The state of the part as plain data: every piece of state the spec's chapters give its blocks, the input levels
that rules read, and the queue of waiting commands. INVENTORY.md lists each field with its rule and its reset value.
-/

namespace Sys2Proof.Machine

open Sys2Proof.Config (Timer)

/-! ## Link Ports (10) -/

/-- The status codes of a reply (R166), in the order of their values $00 to $10. -/
inductive Status where
  | ok | clamped | restarted | badCrc | shortFrame | unknown | badArg | notYours | locked | notRunning | noDemand
  | senseConflict | lostUnacked | setupOnly | notNow | empty | overrun
deriving DecidableEq, Repr

/-- A staged reply (R165). Its twelfth byte, the CRC of the other eleven, is computed from these fields. -/
structure Reply where
  status : Status
  echo : Byte
  data : Vector Byte 9
deriving DecidableEq, Repr

/-- Whether a port's controller is still sending good frames (R171). -/
inductive Presence where
  | present | absent
deriving DecidableEq, Repr

/-- A link port's own state (10, table before R162), and its History Ring cursor and overrun mark (R176). -/
structure LinkPort where
  /-- Level of the select input: true while it is asserted, that is while a frame is in progress (R162). -/
  selected : Bool
  /-- The frame in progress began before or during a reset and is ignored (R162). -/
  ignored : Bool
  /-- Whole bytes of the frame in progress (R162). -/
  byteCount : Nat
  /-- The bits of a byte that has not reached eight, oldest first (R162). -/
  partialBits : List Bool
  /-- The last twelve whole bytes received, oldest first (R162). -/
  lastBytes : List Byte
  /-- The reply the next frame carries out (R164). -/
  staged : Reply
  /-- What SDO carried in the last completed frame, bit by bit (R164; the model's own record, log 5). -/
  sent : List Bool
  /-- The nine notice flags (R168). -/
  flags : NoticeSet
  /-- One enable for each flag (R170). -/
  enables : NoticeSet
  /-- The attention line: true when asserted, pulled low (R170). -/
  attention : Bool
  /-- The link timer (R171). -/
  linkTimer : Timer
  presence : Presence
  /-- Ordinal of the next History Ring record this port has not read (R176). -/
  cursor : Nat
  /-- The History Ring dropped a record this port had not read (R176). -/
  overrun : Bool
deriving DecidableEq, Repr

/-! ## Demand Table (01) -/

inductive Sense where
  | cool | heat
deriving DecidableEq, Repr

/-- Priority classes, highest first (R3). -/
inductive Tier where
  | protect | charge | drive | comfort
deriving DecidableEq, Repr

/-- Where a demand stands in its life (R3). -/
inductive DemandState where
  | free | waiting | served | partly | starved | held
deriving DecidableEq, Repr

/-- One slot of the Demand Table (R3). A slot whose state is `free` holds no demand. -/
structure Demand where
  state : DemandState
  sense : Sense
  tier : Tier
  weight : Nat
  asked : Nat
  granted : Nat
  /-- Lease length in seconds; 0 for slot G and for a FREE slot. -/
  leaseLength : Nat
  /-- Lease remaining; stopped for slot G and for a FREE slot. -/
  lease : Timer
  starveCount : Nat
  starveMark : Bool
deriving DecidableEq, Repr

/-- A FREE slot: every other field is cleared (R3). -/
def Demand.freeSlot : Demand :=
  { state := .free, sense := .cool, tier := .protect, weight := 0, asked := 0, granted := 0, leaseLength := 0,
    lease := none, starveCount := 0, starveMark := false }

/-! ## Regime Controller (04) -/

/-- The regime (R70), in the order R70 lists its values; `noRegime` is the manual's "none", the regime of SETUP. -/
inductive Regime where
  | noRegime | park | drive | priming | charge | dormant
deriving DecidableEq, Repr

inductive VoteM where
  | park | drive
deriving DecidableEq, Repr

inductive VoteB where
  | noCharge | charge
deriving DecidableEq, Repr

/-- The Regime Controller's state (R70). -/
structure RegimeCtl where
  regime : Regime
  voteM : VoteM
  voteB : VoteB
  chargePending : Bool
  prime : Timer
  dormant : Timer
deriving DecidableEq, Repr

/-! ## Circuit Mode Controller (03) -/

/-- The three circuit modes (R52). -/
inductive Mode where
  | separate | series | scavenge
deriving DecidableEq, Repr

inductive ValveState where
  | settled | travel | retryWait | locked
deriving DecidableEq, Repr

/-- The Circuit Mode Controller's state (R54) and the code on the drive lines (R55). The dwell timer is stopped outside
SETTLED and, while SETTLED, stopped once it has run out (R59). -/
structure Valve where
  state : ValveState
  fromMode : Mode
  toMode : Mode
  attempt : Nat
  dwell : Timer
  travel : Timer
  release : Bool
  driveCode : BitVec 2
deriving DecidableEq, Repr

/-! ## Allocator (02) -/

/-- The three valve-dependent paths (R52). -/
structure Availability where
  radM : Bool
  radB : Bool
  scav : Bool
deriving DecidableEq, Repr

/-- The allowance in force and its source (R43). -/
inductive Allowance where
  | noAllowance
  | safe
  | granted (value : Nat)
deriving DecidableEq, Repr

/-- The source of an allowance, as a grant set records it (R47). -/
inductive AllowSource where
  | noAllowance | safe | granted
deriving DecidableEq, Repr

/-- A standing demand's part of a grant set (R47): its slot index, whether it was held, its grant from each resource. -/
structure GrantEntry where
  ix : Fin 15
  held : Bool
  scav : Nat
  rad : Nat
  comp : Nat
  ptc : Nat
deriving DecidableEq, Repr

/-- A demand's total over all resources in one cycle (R16). -/
def GrantEntry.total (e : GrantEntry) : Nat := e.scav + e.rad + e.comp + e.ptc

/-- A grant set (R47). -/
structure GrantSet where
  seq : BitVec 16
  regime : Regime
  avail : Availability
  entries : List GrantEntry
  scavPool : Nat
  radPool : Nat
  compPool : Nat
  ptcPool : Nat
  /-- The SCAV total S, granted to BATTERY HEAT (R36). -/
  scavTotal : Nat
  /-- The SCAV credit total, granted to MOTOR COOL (R37). -/
  creditTotal : Nat
  radTotal : Nat
  /-- Gcomp after the compressor minimum (R40). -/
  compTotal : Nat
  /-- The COMP amount revoked by the compressor minimum (R40). -/
  revoked : Nat
  ptcTotal : Nat
  /-- Loop totals of MOTOR, BATTERY and CABIN. -/
  loopTotal : Vector Nat 3
  /-- Loop senses of MOTOR, BATTERY and CABIN. -/
  loopSense : Vector (Option Sense) 3
  heatCabin : Nat
  heatBattery : Nat
  compDraw : Nat
  heaterDraw : Nat
  totalDraw : Nat
  allowance : Nat
  source : AllowSource
deriving DecidableEq, Repr

/-- The Allocator's state: cycle timer, sequence number, allowance, grant sets (R22, R43, R48). -/
structure Allocator where
  /-- Length of the period in progress, in microseconds; 0 while the timer has never run. -/
  cycleLength : Nat
  cycleLeft : Timer
  seq : BitVec 16
  inForce : Allowance
  allowLease : Timer
  /-- A value in eu and a lease in seconds, waiting for the next cycle expiry. -/
  pendingAllow : Option (Nat × Nat)
  published : Option GrantSet
  previous : Option GrantSet
deriving DecidableEq, Repr

/-! ## Temperature Front End (05) -/

inductive TempTag where
  | init | good | clampedLow | clampedHigh | stale | blind
deriving DecidableEq, Repr

/-- One temperature channel (R88). -/
structure TempChannel where
  raw : BitVec 12
  lastReading : Int
  filtered : Int
  tag : TempTag
  hold : Timer
  recover : Nat
deriving DecidableEq, Repr

/-- A temperature channel after any reset (R88). -/
def TempChannel.initial : TempChannel :=
  { raw := 0, lastReading := 0, filtered := 0, tag := .init, hold := none, recover := 0 }

/-! ## Flow Capture and Zone Monitor (06, 07) -/

inductive FlowTag where
  | stall | good
deriving DecidableEq, Repr

/-- One flow channel (R103). -/
structure FlowChannel where
  reference : Option Nat
  accumulator : Nat
  periods : Nat
  flow : Nat
  tag : FlowTag
  stall : Timer
deriving DecidableEq, Repr

/-- A flow channel after any reset (R103). -/
def FlowChannel.initial : FlowChannel :=
  { reference := none, accumulator := 0, periods := 0, flow := 0, tag := .stall, stall := none }

/-- A loop's delivered-heat record (R109). -/
structure DeliveredRecord where
  delivered : Int
  measured : Bool
  saturated : Bool
  shortfall : Nat
deriving DecidableEq, Repr

/-- A delivered-heat record after any reset (R109). -/
def DeliveredRecord.initial : DeliveredRecord :=
  { delivered := 0, measured := false, saturated := false, shortfall := 0 }

/-- A zone's five conditions (R116). -/
structure Conditions where
  high : Bool
  low : Bool
  stall : Bool
  blind : Bool
  short : Bool
deriving DecidableEq, Repr

inductive GuardState where
  | unarmed | armed | tripped
deriving DecidableEq, Repr

inductive GuardAction where
  | notice | synth | shed
deriving DecidableEq, Repr

/-- A zone's conditions and its guard (R116, R124). -/
structure ZoneMonitor where
  cond : Conditions
  guard : GuardState
  trips : Nat
deriving DecidableEq, Repr

/-- A zone after any reset: BLIND, STALL where the zone has a loop, guard UNARMED (R116, R124). -/
def ZoneMonitor.initial (hasLoop : Bool) : ZoneMonitor :=
  { cond := { high := false, low := false, stall := hasLoop, blind := true, short := false }, guard := .unarmed, trips := 0 }

/-! ## Actuator Drive (08) -/

/-- One PWM channel (R133, R134). -/
structure PwmChannel where
  target : Nat
  setpoint : Nat
  pendingDuty : Option Nat
  applied : Nat
  force : Option Nat
  /-- Length of the PWM period in progress, in microseconds. -/
  period : Nat
  /-- What is left of it. -/
  periodLeft : Timer
deriving DecidableEq, Repr

/-- A PWM channel at the end of any reset, with its limp duty (R133, R134, R140). -/
def PwmChannel.initial (limp : Nat) : PwmChannel :=
  { target := 0, setpoint := limp, pendingDuty := none, applied := limp, force := none, period := 1000,
    periodLeft := some 1000 }

/-! ## Parameter Store (09) -/

/-- A parameter's value (both halves of a pair; the second half of any other parameter is 0), written mark and writer (R150). -/
structure ParamEntry where
  value : Int
  second : Int
  written : Bool
  writer : Option Port
deriving DecidableEq, Repr

/-- A parameter after any reset: its default, or 0 and unwritten where it has none (R150). -/
def ParamEntry.initial (q : Param) : ParamEntry :=
  { value := q.row.default.getD 0, second := 0, written := false, writer := none }

/-- The parameter store after any reset (R150). -/
def initialParams : Vector ParamEntry 100 :=
  ⟨⟨allParams.map ParamEntry.initial⟩, by decide⟩

inductive SetupState where
  | setup | run
deriving DecidableEq, Repr

/-- The reasons of the setup fault record (R158, R167). -/
inductive FaultReason where
  | noFault | unwritten | zoneBands | convOrder | mapOrder | compTemps
deriving DecidableEq, Repr

/-- Setup state, start votes of ports M, B and C, and the fault record (R156, R161). -/
structure SetupCtl where
  state : SetupState
  votes : Vector Bool 3
  reason : FaultReason
  faultId : Nat
deriving DecidableEq, Repr

/-! ## History Ring and reset record (11, 10) -/

/-- One record of the History Ring (R176, R167). -/
structure Snapshot where
  seq : BitVec 16
  regime : Regime
  valveState : ValveState
  toMode : Mode
  compTotal : Nat
  radTotal : Nat
  ptcTotal : Nat
  scavTotal : Nat
deriving DecidableEq, Repr

/-- The History Ring: its records, oldest first, and the count of appends since reset (R176). -/
structure Ring where
  records : List Snapshot
  appended : Nat
deriving DecidableEq, Repr

inductive ResetCause where
  | powerOn | resetLine | supplyDip
deriving DecidableEq, Repr

/-- The reset record (R173). -/
structure ResetRecord where
  cause : ResetCause
  count : Nat
deriving DecidableEq, Repr

/-! ## The whole part -/

/-- The state of the part. -/
structure State where
  /-- Ports M, B and C. -/
  ports : Vector LinkPort 3
  /-- The fifteen demand slots, index zone x 5 + slot (R2). -/
  demands : Vector Demand 15
  /-- The age list, oldest first (R20). -/
  age : List (Fin 15)
  alloc : Allocator
  valve : Valve
  regime : RegimeCtl
  /-- Temperature channels 0 to 6. -/
  temps : Vector TempChannel 7
  /-- Flow channels 0 and 1. -/
  flows : Vector FlowChannel 2
  /-- Delivered-heat records of MOTOR and BATTERY. -/
  delivered : Vector DeliveredRecord 2
  /-- Conditions and guards of MOTOR, BATTERY and CABIN. -/
  zones : Vector ZoneMonitor 3
  /-- SHED active (R129). -/
  shed : Bool
  /-- PWM channels 0 to 5. -/
  pwm : Vector PwmChannel 6
  params : Vector ParamEntry 100
  setup : SetupCtl
  ring : Ring
  resetRecord : ResetRecord
  /-- Level of the HV_READY input. -/
  hvReady : Bool
  /-- Level of the VALVE_AT input. -/
  valveAt : Bool
  /-- The commands that are waiting, first in, first out. -/
  pending : List Instr
  /-- The part's microsecond time base, which stamps flow edges (R104, log 8). It also gives the free value `Config.takenFirst` a
fresh argument at each tick (log 3). -/
  timeBase : Nat
deriving DecidableEq, Repr

/-- The part never stops with a fault: the manual describes no condition that stops it (log 20), so there is no fault to raise. -/
inductive Fault where
deriving DecidableEq, Repr

/-- Why a command has no meaning. -/
inductive Refusal where
  /-- Raised by the dispatch alone, for a command whose meaning is not written yet; safe: the model stops. No command of this
  model is refused. -/
  | notModelled (mnemonic : String)
deriving DecidableEq, Repr

/-- Where a rule of the manual numbers an enumerated value by its place in a list (R167). -/
def ResetCause.code : ResetCause → Byte
  | .powerOn => 0#8
  | .resetLine => 1#8
  | .supplyDip => 2#8

/-- The RESTARTED reply: echo $00, the reset record in data 0 and 1 (R165, R172, R173). -/
def restartedReply (r : ResetRecord) : Reply :=
  { status := .restarted, echo := 0#8, data := packData (r.cause.code :: u8 r.count) }

/-- A link port at the end of any reset (R172, R176): RESTARTED staged, LOST set and alone enabled, line asserted. A select line
that is asserted then carries a frame that began before or during the reset, which the port ignores (R162). -/
def LinkPort.initial (r : ResetRecord) (selected : Bool) : LinkPort :=
  { selected := selected, ignored := selected, byteCount := 0, partialBits := [], lastBytes := [],
    staged := restartedReply r, sent := [], flags := 1#9, enables := 1#9, attention := true, linkTimer := none,
    presence := .present, cursor := 1, overrun := false }

/-- Every block at its reset state (R21, R22, R43, R48, R69, R70, R88, R103, R109, R116, R124, R129, R133, R150, R161, R172,
R176). The reset record, the levels of the inputs (HV_READY, VALVE_AT and the select lines of ports M, B and C), the queue and the
time base (log 8) are given, since no reset sets them; the arrival that R69 takes when VALVE_AT is asserted is not in
here. -/
def State.afterReset (r : ResetRecord) (hvReady valveAt : Bool) (selects : Vector Bool 3) (pending : List Instr)
    (timeBase : Nat) : State :=
  { ports :=
      #v[LinkPort.initial r (selects.get 0), LinkPort.initial r (selects.get 1), LinkPort.initial r (selects.get 2)]
    demands := Vector.replicate 15 Demand.freeSlot
    age := []
    alloc :=
      { cycleLength := 0, cycleLeft := none, seq := 0, inForce := .noAllowance, allowLease := none, pendingAllow := none,
        published := none, previous := none }
    valve :=
      { state := .travel, fromMode := .separate, toMode := .separate, attempt := 1, dwell := none,
        travel := some (seconds 20), release := true, driveCode := 0 }
    regime :=
      { regime := .noRegime, voteM := .park, voteB := .noCharge, chargePending := false, prime := none, dormant := none }
    temps := Vector.replicate 7 TempChannel.initial
    flows := Vector.replicate 2 FlowChannel.initial
    delivered := Vector.replicate 2 DeliveredRecord.initial
    zones := #v[ZoneMonitor.initial true, ZoneMonitor.initial true, ZoneMonitor.initial false]
    shed := false
    pwm := #v[PwmChannel.initial 400, PwmChannel.initial 400, PwmChannel.initial 500, PwmChannel.initial 0,
      PwmChannel.initial 0, PwmChannel.initial 0]
    params := initialParams
    setup := { state := .setup, votes := Vector.replicate 3 false, reason := .noFault, faultId := 0 }
    ring := { records := [], appended := 0 }
    resetRecord := r
    hvReady := hvReady
    valveAt := valveAt
    pending := pending
    timeBase := timeBase }

/-- The part after a power-on reset (R173), every input deasserted (log 6, DESIGN CHOICE), no command waiting, and the time base at 0
(log 8, DESIGN CHOICE). -/
def State.reset : State :=
  State.afterReset { cause := .powerOn, count := 0 } false false (Vector.replicate 3 false) [] 0

end Sys2Proof.Machine
end

