-- ==== Sys2Proof/Machine/Ops.lean ====
section
/-!
DEFINITION. Named operations over the tables of State: one read and one write for each table, the numbering of ports, zones,
loops, channels and slots, parameter reads, and the Demand Table's own operations (R2, R3, R18, R19, R20).
-/

namespace Sys2Proof.Machine

open Sys2Proof.Config (Timer)

/-! ## Tables -/

/-- Write one place of a table. -/
def put {α : Type} {n : Nat} (v : Vector α n) (i : Fin n) (x : α) : Vector α n := v.set i.val x i.isLt

/-- Apply one function to every place of a table. -/
def mapTable {α : Type} {n : Nat} (f : α → α) (v : Vector α n) : Vector α n :=
  ⟨⟨v.toList.map f⟩, by simp⟩

/-! ## Numberings -/

def portIx : Port → Fin 3
  | .M => 0
  | .B => 1
  | .C => 2

def zoneIx : Zone → Fin 3
  | .motor => 0
  | .battery => 1
  | .cabin => 2

def loopIx : Loop → Fin 2
  | .motor => 0
  | .battery => 1

def tempIx : TempCh → Fin 7
  | .tmOut => 0
  | .tmIn => 1
  | .tbOut => 2
  | .tbIn => 3
  | .tc => 4
  | .ta => 5
  | .tr => 6

def pwmIx : PwmCh → Fin 6
  | .pumpM => 0
  | .pumpB => 1
  | .fan => 2
  | .comp => 3
  | .heatC => 4
  | .heatB => 5

/-- Port M belongs to MOTOR, B to BATTERY, C to CABIN (00, Ports and zones). -/
def portZone : Port → Zone
  | .M => .motor
  | .B => .battery
  | .C => .cabin

/-- A zone's port (00, Ports and zones). -/
def zonePort : Zone → Port
  | .motor => .M
  | .battery => .B
  | .cabin => .C

def allPorts : List Port := [.M, .B, .C]

def allZones : List Zone := [.motor, .battery, .cabin]

def allLoops : List Loop := [.motor, .battery]

def allTemps : List TempCh := [.tmOut, .tmIn, .tbOut, .tbIn, .tc, .ta, .tr]

def allPwm : List PwmCh := [.pumpM, .pumpB, .fan, .comp, .heatC, .heatB]

/-- The fifteen slot indices. -/
def allSlots : List (Fin 15) := [0, 1, 2, 3, 4, 5, 6, 7, 8, 9, 10, 11, 12, 13, 14]

/-- Slot k of a zone has index zone x 5 + k (R2). -/
def slotIx (z : Zone) (k : Fin 5) : Fin 15 :=
  match z with
  | .motor => ⟨k.val, by omega⟩
  | .battery => ⟨5 + k.val, by omega⟩
  | .cabin => ⟨10 + k.val, by omega⟩

/-- A zone's synthetic slot G, numbered 4 (R2). -/
def gIx (z : Zone) : Fin 15 := slotIx z 4

/-- The four posted slots of a zone (R2). -/
def postedSlots (z : Zone) : List (Fin 15) := [slotIx z 0, slotIx z 1, slotIx z 2, slotIx z 3]

/-- The zone a slot index lies in (R2). -/
def zoneOfIx (i : Fin 15) : Zone :=
  if i.val < 5 then .motor else if i.val < 10 then .battery else .cabin

/-- The zone temperature channel of a zone (R87). -/
def zoneTemp : Zone → TempCh
  | .motor => .tmOut
  | .battery => .tbOut
  | .cabin => .tc

/-- The zone whose temperature a channel is, if any (R87, R100). -/
def tempZone : TempCh → Option Zone
  | .tmOut => some .motor
  | .tbOut => some .battery
  | .tc => some .cabin
  | .tmIn => none
  | .tbIn => none
  | .ta => none
  | .tr => none

/-- A loop's outlet channel (R110). -/
def loopOut : Loop → TempCh
  | .motor => .tmOut
  | .battery => .tbOut

/-- A loop's inlet channel (R110). -/
def loopIn : Loop → TempCh
  | .motor => .tmIn
  | .battery => .tbIn

/-! ## Reads and writes of State's tables -/

def State.port (s : State) (p : Port) : LinkPort := s.ports.get (portIx p)

def State.setPort (s : State) (p : Port) (x : LinkPort) : State := { s with ports := put s.ports (portIx p) x }

def State.demand (s : State) (i : Fin 15) : Demand := s.demands.get i

def State.setDemand (s : State) (i : Fin 15) (d : Demand) : State := { s with demands := put s.demands i d }

def State.temp (s : State) (c : TempCh) : TempChannel := s.temps.get (tempIx c)

def State.setTemp (s : State) (c : TempCh) (x : TempChannel) : State := { s with temps := put s.temps (tempIx c) x }

def State.flow (s : State) (l : Loop) : FlowChannel := s.flows.get (loopIx l)

def State.setFlow (s : State) (l : Loop) (x : FlowChannel) : State := { s with flows := put s.flows (loopIx l) x }

def State.record (s : State) (l : Loop) : DeliveredRecord := s.delivered.get (loopIx l)

def State.setRecord (s : State) (l : Loop) (x : DeliveredRecord) : State :=
  { s with delivered := put s.delivered (loopIx l) x }

def State.zone (s : State) (z : Zone) : ZoneMonitor := s.zones.get (zoneIx z)

def State.setZone (s : State) (z : Zone) (x : ZoneMonitor) : State := { s with zones := put s.zones (zoneIx z) x }

def State.out (s : State) (c : PwmCh) : PwmChannel := s.pwm.get (pwmIx c)

def State.setOut (s : State) (c : PwmCh) (x : PwmChannel) : State := { s with pwm := put s.pwm (pwmIx c) x }

def State.param (s : State) (q : Param) : ParamEntry := s.params.get q.place

def State.setParam (s : State) (q : Param) (e : ParamEntry) : State := { s with params := put s.params q.place e }

/-- A parameter's value as a signed number. -/
def State.int (s : State) (q : Param) : Int := (s.param q).value

/-- A parameter's value as a count or an amount. -/
def State.num (s : State) (q : Param) : Nat := (s.param q).value.toNat

/-- The part is in RUN (R156). -/
def State.running (s : State) : Bool := s.setup.state == .run

/-- A port's start vote (R156). -/
def State.startVote (s : State) (p : Port) : Bool := s.setup.votes.get (portIx p)

/-! ## Demands -/

/-- A demand stands while its slot is not FREE (R3). -/
def Demand.stands (d : Demand) : Bool := d.state != .free

/-- Starve credit raises the weight, up to 15 (R4). -/
def Demand.effectiveWeight (d : Demand) : Nat := min 15 (d.weight + min 14 d.starveCount)

/-- No demand stands, posted or synthetic (R78). -/
def State.tableEmpty (s : State) : Bool := allSlots.all (fun i => !(s.demand i).stands)

/-- Keep the dormant timer to R78 after the Demand Table changed: it runs exactly in PARK with no demand standing, and starts
with DORMANT_DELAY when that becomes so. -/
def State.dormantUpkeep (s : State) : State :=
  if s.regime.regime = .park ∧ s.tableEmpty = true then
    match s.regime.dormant with
    | some _ => s
    | none => { s with regime := { s.regime with dormant := some (seconds (s.num .dormantDelay)) } }
  else { s with regime := { s.regime with dormant := none } }

/-- Free a slot: its fields are cleared and it leaves the age list (R3, R20). -/
def State.freeSlot (s : State) (i : Fin 15) : State :=
  ({ s.setDemand i Demand.freeSlot with age := s.age.erase i }).dormantUpkeep

/-- Write a demand into a slot. It joins the age list as youngest if the slot was FREE, or if `keepPlace` is false; otherwise it
keeps its place (R8, R9, R18, R20). -/
def State.writeDemand (s : State) (i : Fin 15) (d : Demand) (keepPlace : Bool) : State :=
  let age :=
    if (s.demand i).stands = true ∧ keepPlace = true then s.age else s.age.erase i ++ [i]
  ({ s.setDemand i d with age := age }).dormantUpkeep

/-- What a create request writes into a zone's G slot, from SYNTH_SENSE and SYNTH_AMOUNT as they stand (R18). -/
def State.syntheticDemand (s : State) (z : Zone) : Demand :=
  { state := .waiting
    sense := if s.num (.synthSense z) = 0 then .cool else .heat
    tier := .protect
    weight := 15
    asked := s.num (.synthAmount z)
    granted := 0
    leaseLength := 0
    lease := none
    starveCount := 0
    starveMark := false }

/-- A create request from a zone's guard (R18). -/
def State.createSynthetic (s : State) (z : Zone) : State :=
  s.writeDemand (gIx z) (s.syntheticDemand z) true

/-- A withdraw request from a zone's guard: no effect on a FREE slot (R19). -/
def State.withdrawSynthetic (s : State) (z : Zone) : State :=
  if (s.demand (gIx z)).stands then s.freeSlot (gIx z) else s

/-! ## Temperatures -/

/-- A channel is usable unless its tag is BLIND or INIT (R27, R99). -/
def TempTag.usable : TempTag → Bool
  | .init => false
  | .blind => false
  | .good => true
  | .clampedLow => true
  | .clampedHigh => true
  | .stale => true

def State.usable (s : State) (c : TempCh) : Bool := (s.temp c).tag.usable

/-- The filtered value of a channel (R99). -/
def State.tempValue (s : State) (c : TempCh) : Int := (s.temp c).filtered

/-! ## Operands of frames -/

/-- The slots 0 to 3 that a slot set names (R167). -/
def namedSlots (slots : Byte) : List (Fin 4) :=
  ([0, 1, 2, 3] : List (Fin 4)).filter (fun k => slots.getLsbD k.val)

/-- A slot set as a byte, from the slots it names (R167). -/
def slotSetByte (ks : List (Fin 4)) : Byte :=
  ks.foldl (fun b k => b ||| ((1#8) <<< k.val)) 0#8

/-- The index of a posted slot of a zone. -/
def postedIx (z : Zone) (k : Fin 4) : Fin 15 := slotIx z ⟨k.val, by omega⟩

end Sys2Proof.Machine
end

