-- ==== Sys2Proof/Machine/Flags.lean ====
section
/-!
DEFINITION. The notice flags with their enables and the attention line (R168, R169, R170), and a guard's match of a zone's
conditions (R123).
-/

namespace Sys2Proof.Machine

/-- The nine notices (R168), in the order of their bits (R167). -/
inductive Notice where
  | lost | expired | starve | guard | shortfall | mode | regime | setup | allowance
deriving DecidableEq, Repr

/-- The bit of a notice in a notice set (R167). -/
def Notice.mask : Notice → NoticeSet
  | .lost => 0x001#9
  | .expired => 0x002#9
  | .starve => 0x004#9
  | .guard => 0x008#9
  | .shortfall => 0x010#9
  | .mode => 0x020#9
  | .regime => 0x040#9
  | .setup => 0x080#9
  | .allowance => 0x100#9

/-- The attention line is asserted while at least one flag is both set and enabled (R170). -/
def lineFor (flags enables : NoticeSet) : Bool := (flags &&& enables) != 0#9

/-- A port with new flags, its line following (R170). -/
def LinkPort.withFlags (l : LinkPort) (flags : NoticeSet) : LinkPort :=
  { l with flags := flags, attention := lineFor flags l.enables }

/-- A port with new enables, its line following (R170). -/
def LinkPort.withEnables (l : LinkPort) (enables : NoticeSet) : LinkPort :=
  { l with enables := enables, attention := lineFor l.flags enables }

/-- A port's notice flag. -/
def LinkPort.flag (l : LinkPort) (n : Notice) : Bool := (l.flags &&& n.mask) != 0#9

/-- Set a notice on one port, whatever its enable (R168). -/
def State.notify (s : State) (n : Notice) (p : Port) : State :=
  s.setPort p ((s.port p).withFlags ((s.port p).flags ||| n.mask))

/-- Set a notice on all three ports (R168). -/
def State.notifyAll (s : State) (n : Notice) : State :=
  ((s.notify n .M).notify n .B).notify n .C

/-- The notice set that a frame's two data bytes carry: bit 8 is ALLOWANCE, the bits above it are ignored (R167). -/
def noticeSetOf (w : Word) : NoticeSet := w.setWidth 9

/-- The two bytes of a notice set (R167). -/
def noticeBytes (n : NoticeSet) : List Byte := [hiByte (n.setWidth 16), loByte (n.setWidth 16)]

/-! ## Guard match -/

/-- Bit i of a stored condition set: HIGH, LOW, STALL, BLIND, SHORT are bits 0 to 4 (R167). -/
def condBit (v : Nat) (i : Nat) : Bool := v.testBit i

/-- Every selected condition has its expected value (R123). -/
def Conditions.matches (c : Conditions) (select expect : Nat) : Bool :=
  (!condBit select 0 || c.high == condBit expect 0) &&
  (!condBit select 1 || c.low == condBit expect 1) &&
  (!condBit select 2 || c.stall == condBit expect 2) &&
  (!condBit select 3 || c.blind == condBit expect 3) &&
  (!condBit select 4 || c.short == condBit expect 4)

/-- A zone's guard matches, from the conditions and parameters as they stand (R123). -/
def State.guardMatches (s : State) (z : Zone) : Bool :=
  (s.zone z).cond.matches (s.num (.guardSelect z)) (s.num (.guardExpect z))

/-- GUARD_ACTION: NOTICE 0, SYNTH 1, SHED 2 (R149, R167). -/
def actionOf (v : Nat) : GuardAction :=
  if v = 1 then .synth else if v = 2 then .shed else .notice

def State.guardAction (s : State) (z : Zone) : GuardAction := actionOf (s.num (.guardAction z))

end Sys2Proof.Machine
end

