-- ==== Sys2Proof/Machine/Regime.lean ====
section
/-!
DEFINITION. The Regime Controller: effective votes, resolution, the wake from DORMANT, and the events that act on it (R70 to R86).
-/

namespace Sys2Proof.Machine

/-- Port M's effective vote is DRIVE: its vote is, and the port is PRESENT (R72). -/
def State.driveVote (s : State) : Bool := s.regime.voteM == .drive && (s.port .M).presence == .present

/-- Port B's effective vote is CHARGE: its vote is, and the port is PRESENT (R72). -/
def State.chargeVote (s : State) : Bool := s.regime.voteB == .charge && (s.port .B).presence == .present

/-- The charge condition, row 1 of R73. -/
def State.chargeCondition (s : State) : Bool := s.chargeVote && s.hvReady

/-- Change the regime. A change sets REGIME on all ports (R84), starts the prime timer on entry to PRIMING and stops it
otherwise (R75, R76, R77), and starts the dormant timer on entry to PARK with no demand standing and stops it otherwise (R78).
No change changes nothing (R73). -/
def State.changeRegime (s : State) (r : Regime) : State :=
  if s.regime.regime = r then s
  else
    { s with
      regime :=
        { s.regime with
          regime := r
          prime := if r = Regime.priming then some (seconds (s.num .primeTime)) else none
          dormant :=
            if r = Regime.park ∧ s.tableEmpty = true then some (seconds (s.num .dormantDelay)) else none } }.notifyAll .regime

/-- Settle charge-pending: set exactly when row 1 of R73 fails for want of HV_READY (R74). -/
def State.settleChargePending (s : State) : State :=
  { s with regime := { s.regime with chargePending := s.chargeVote && !s.hvReady } }

/-- What a resolution makes of the regime in force (R73, R75, R77, R81). -/
def State.resolvedRegime (s : State) : Regime :=
  if s.regime.regime = .dormant then .dormant
  else if s.chargeCondition then
    (if s.regime.regime = .priming ∨ s.regime.regime = .charge then s.regime.regime else .priming)
  else if s.driveVote then .drive
  else .park

/-- A resolution (R73): charge-pending is settled and the regime becomes what the first row that applies gives. -/
def State.resolve (s : State) : State :=
  let t := s.settleChargePending
  t.changeRegime t.resolvedRegime

/-- A resolution where the part is in RUN; in SETUP none runs (R73). -/
def State.resolveInRun (s : State) : State := if s.running then s.resolve else s

/-- The end of DORMANT by a frame or by HV_READY: PARK, then a resolution; the cycle timer completes its period (R80, log 26). -/
def State.wake (s : State) : State :=
  if s.regime.regime = .dormant then (s.changeRegime .park).resolve else s

/-- HV_READY rises (R73, R80). -/
def riseHvReady (s : State) : State :=
  let t := { s with hvReady := true }
  t.wake.resolveInRun

/-- HV_READY falls; it does not end DORMANT (R73, R80, R81). -/
def fallHvReady (s : State) : State :=
  let t := { s with hvReady := false }
  t.resolveInRun

/-- The prime timer runs out: PRIMING becomes CHARGE while the charge condition holds (R76); if it does not hold, the resolution
leaves PRIMING by R77. Nothing happens unless the timer has run out in PRIMING (log 2). -/
def expirePrime (s : State) : State :=
  if s.regime.regime = .priming ∧ ranOut s.regime.prime = true then
    if s.chargeCondition then s.settleChargePending.changeRegime .charge else s.resolve
  else s

/-- A channel taken to 0 at entry to DORMANT: setpoint and applied duty 0, no pending duty, the target left (R142). -/
def PwmChannel.toZero (c : PwmChannel) : PwmChannel :=
  { c with setpoint := 0, applied := 0, pendingDuty := none }

/-- The dormant timer runs out: DORMANT, and all six duties to 0 at once (R79, R142). -/
def expireDormant (s : State) : State :=
  if ranOut s.regime.dormant then
    let t := s.changeRegime .dormant
    { t with pwm := mapTable PwmChannel.toZero t.pwm }
  else s

/-- The length of a cycle period that begins in a regime, in microseconds (R22). -/
def State.cyclePeriod (s : State) : Nat :=
  match s.regime.regime with
  | .drive => millis (s.num .cycleRun)
  | .priming => millis (s.num .cycleRun)
  | .charge => millis (s.num .cycleRun)
  | .dormant => seconds 10
  | .park => millis (s.num .cyclePark)
  | .noRegime => millis (s.num .cyclePark)

/-- RUN entry at the Regime Controller: port M's vote becomes PARK and the regime is resolved as from PARK; it always changes
from none, so REGIME is set on all ports, and the dormant timer starts if PARK results (R84, R85). -/
def State.regimeRunEntry (s : State) : State :=
  let t := { s with regime := { s.regime with regime := .park, voteM := .park } }
  (t.resolve.notifyAll .regime).dormantUpkeep

/-- HV_READY_RISE. -/
def execHvReadyRise (s : State) : Host.Outcome State Fault Refusal := .next (riseHvReady s)

/-- HV_READY_FALL. -/
def execHvReadyFall (s : State) : Host.Outcome State Fault Refusal := .next (fallHvReady s)

/-- PRIME_TIMER_EXPIRY. -/
def execPrimeTimerExpiry (s : State) : Host.Outcome State Fault Refusal := .next (expirePrime s)

/-- DORMANT_TIMER_EXPIRY. -/
def execDormantTimerExpiry (s : State) : Host.Outcome State Fault Refusal := .next (expireDormant s)

end Sys2Proof.Machine
end

