-- ==== Sys2Proof/Machine/Guard.lean ====
section
/-!
DEFINITION. Zone conditions and guards: keeping the conditions up to date, evaluation, trips, returns to match, SHED, and live
writes to a guard (R116 to R132).
-/

namespace Sys2Proof.Machine

/-- SHED is active while at least one guard is TRIPPED with action SHED (R129). -/
def State.shedWanted (s : State) : Bool :=
  allZones.any (fun z => (s.zone z).guard == .tripped && s.guardAction z == .shed)

/-- Bring SHED up to date (R129). -/
def State.shedUpkeep (s : State) : State := { s with shed := s.shedWanted }

/-- What the action in force adds to a trip (R127, R128, R129). -/
def State.tripAction (s : State) (z : Zone) : State :=
  match s.guardAction z with
  | .notice => s
  | .synth => s.createSynthetic z
  | .shed => s.notifyAll .guard

/-- A trip that finds the part awake: TRIPPED, one more trip, GUARD on the zone's port, and the action's effects (R127). -/
def State.tripAwake (s : State) (z : Zone) : State :=
  let a := s.setZone z { s.zone z with guard := .tripped, trips := min 255 ((s.zone z).trips + 1) }
  (((a.notify .guard (zonePort z)).tripAction z)).shedUpkeep

/-- A trip. In DORMANT it first ends DORMANT; its own effects follow in PARK, and then the wake's resolution (R80, R127). -/
def State.trip (s : State) (z : Zone) : State :=
  if s.regime.regime = .dormant then ((s.changeRegime .park).tripAwake z).resolve else s.tripAwake z

/-- The end of an action's synthetic demand (R128, R130). -/
def State.endSynth (s : State) (z : Zone) (old : GuardAction) : State :=
  match old with
  | .synth => s.withdrawSynthetic z
  | .notice => s
  | .shed => s

/-- A return to match: ARMED, and the effects of the action that was in force end (R125, R127, R129). -/
def State.returnToMatch (s : State) (z : Zone) (old : GuardAction) : State :=
  ((s.setZone z { s.zone z with guard := .armed }).endSynth z old).shedUpkeep

/-- An evaluation of a guard (R125). -/
def State.evaluate (s : State) (z : Zone) : State :=
  match (s.zone z).guard with
  | .unarmed => s
  | .armed => if s.guardMatches z then s else s.trip z
  | .tripped => if s.guardMatches z then s.returnToMatch z (s.guardAction z) else s

/-- Give a zone its conditions, and evaluate its guard once if they changed (R117, R125). -/
def State.withConditions (s : State) (z : Zone) (c : Conditions) : State :=
  if (s.zone z).cond = c then s else (s.setZone z { s.zone z with cond := c }).evaluate z

/-- A guard after a taken write of one of its parameters in RUN; `old` is the action before the write (R130). -/
def State.guardWritten (s : State) (z : Zone) (old : GuardAction) : State :=
  match (s.zone z).guard with
  | .unarmed => s
  | .armed => if s.guardMatches z then s else s.trip z
  | .tripped =>
    if s.guardMatches z then s.returnToMatch z old
    else if s.guardAction z = .synth then s.trip z
    else (s.trip z).endSynth z old

/-- One guard at RUN entry: ARMED with reference match, and evaluated at once (R126). -/
def State.armGuard (s : State) (z : Zone) : State :=
  (s.setZone z { s.zone z with guard := .armed }).evaluate z

/-- HIGH after a conversion that leaves a usable channel at v (R118). -/
def highAfter (before : Bool) (v high hyst : Int) : Bool :=
  if before then decide (high - hyst < v) else decide (high < v)

/-- LOW after a conversion that leaves a usable channel at v (R119). -/
def lowAfter (before : Bool) (v low hyst : Int) : Bool :=
  if before then decide (v < low + hyst) else decide (v < low)

/-- The conditions a conversion of the zone temperature channel leaves: HIGH and LOW judged while the channel is usable and the
limit is written, BLIND from the tag (R118, R119, R120). -/
def State.temperatureConditions (s : State) (z : Zone) : Conditions :=
  let old := (s.zone z).cond
  let ok := s.usable (zoneTemp z)
  let v := s.tempValue (zoneTemp z)
  { old with
    high :=
      if ok && (s.param (.high z)).written then highAfter old.high v (s.int (.high z)) (s.int (.hyst z)) else old.high
    low :=
      if ok && (s.param (.low z)).written then lowAfter old.low v (s.int (.low z)) (s.int (.hyst z)) else old.low
    blind := !ok }

/-- A conversion of a zone temperature channel reaches HIGH, LOW and BLIND (R117). -/
def State.refreshTemperature (s : State) (z : Zone) : State := s.withConditions z (s.temperatureConditions z)

/-- A hold expiry of a zone temperature channel reaches BLIND (R117). -/
def State.refreshBlind (s : State) (z : Zone) : State :=
  s.withConditions z { (s.zone z).cond with blind := !s.usable (zoneTemp z) }

/-- A write of a conversion point reaches a zone: HIGH and LOW false, BLIND from the tag (R117). -/
def State.refreshInit (s : State) (z : Zone) : State :=
  s.withConditions z { (s.zone z).cond with high := false, low := false, blind := !s.usable (zoneTemp z) }

/-- A change of a loop's flow tag reaches STALL (R117, R121). -/
def State.refreshStall (s : State) (l : Loop) : State :=
  s.withConditions (loopZone l) { (s.zone (loopZone l)).cond with stall := (s.flow l).tag == .stall }

end Sys2Proof.Machine
end

