-- ==== Sys2Proof/Machine/FlowCapture.lean ====
section
/-!
DEFINITION. Flow Capture: edges, periods, averages and stalls (R103 to R108).
-/

namespace Sys2Proof.Machine

/-- The flow of a completed average, in mL/s (R105). -/
def flowOf (kFlow avg accumulator : Nat) : Nat := min 65535 (kFlow * 10000 / (accumulator / avg))

/-- The average is completed: accumulator and count return to 0; with K_FLOW written the flow is computed and the tag is GOOD
(R105). -/
def FlowChannel.complete (c : FlowChannel) (kFlowWritten : Bool) (kFlow avg : Nat) : FlowChannel :=
  let d := { c with accumulator := 0, periods := 0 }
  if kFlowWritten then { d with flow := flowOf kFlow avg c.accumulator, tag := .good } else d

/-- The period between two edges, saturated at 2 s (R104). -/
def edgePeriod (reference time : Nat) : Nat := min 2000000 (time - reference)

/-- A rising edge at a channel, stamped with the part's time base as it stands (R104). An edge in the same microsecond as the
reference is not taken; no reference is later than the time base (`State.SensingOk`). -/
def State.edgeChannel (s : State) (l : Loop) : FlowChannel :=
  let c := s.flow l
  let time := s.timeBase
  let stall := some (halfSeconds (s.num (.stallTime l)))
  match c.reference with
  | none => { c with reference := some time, stall := stall }
  | some r =>
    if time ≤ r then c
    else
      let d :=
        { c with
          accumulator := c.accumulator + edgePeriod r time
          periods := c.periods + 1
          reference := some time
          stall := stall }
      if d.periods = s.num (.avg l) then
        d.complete (s.param (.kFlow l)).written (s.num (.kFlow l)) (s.num (.avg l))
      else d

/-- Give a flow channel its new state; a change of its tag reaches the zone's STALL condition (R108, R117). -/
def State.updateFlow (s : State) (l : Loop) (c : FlowChannel) : State :=
  if c.tag = (s.flow l).tag then s.setFlow l c else (s.setFlow l c).refreshStall l

/-- A rising edge on a flow input (R104). -/
def takeEdge (s : State) (l : Loop) : State := s.updateFlow l (s.edgeChannel l)

/-- A channel that stalls (R106). -/
def FlowChannel.stalled (_ : FlowChannel) : FlowChannel := FlowChannel.initial

/-- The stall timer runs out. An edge taken first restarts it, and the stall does not happen (R106). -/
def expireStall (s : State) (l : Loop) : State :=
  if ranOut (s.flow l).stall then s.updateFlow l (s.flow l).stalled else s

/-- A taken write of AVG: accumulator and periods taken return to 0 (R107). -/
def State.clearAverage (s : State) (l : Loop) : State :=
  s.setFlow l { s.flow l with accumulator := 0, periods := 0 }

/-- FLOW_EDGE: the stamp is the part's time base, and the sender's label is not read (R104, log 8). -/
def execFlowEdge (l : Loop) (_label : Nat) (s : State) : Host.Outcome State Fault Refusal := .next (takeEdge s l)

/-- STALL_EXPIRY. -/
def execStallExpiry (l : Loop) (s : State) : Host.Outcome State Fault Refusal := .next (expireStall s l)

end Sys2Proof.Machine
end

