-- ==== Sys2Proof/Machine/Outputs.lean ====
section
/-!
DEFINITION. The Actuator Drive: targets, maps, floors, slew, period boundaries, forces and limp duties (R133 to R148, R83).
-/

namespace Sys2Proof.Machine

/-- The limp duties (R133, R140). -/
def limpDuty : PwmCh → Nat
  | .pumpM => 400
  | .pumpB => 400
  | .fan => 500
  | .comp => 0
  | .heatC => 0
  | .heatB => 0

/-- The parameter that holds a channel's PWM period (R133). -/
def periodParam : PwmCh → Param
  | .pumpM => .pwmPeriodPump .motor
  | .pumpB => .pwmPeriodPump .battery
  | .fan => .pwmPeriodFan
  | .comp => .pwmPeriodComp
  | .heatC => .pwmPeriodHeat
  | .heatB => .pwmPeriodHeat

/-- The parameter that holds a channel's slew (R133). -/
def slewParam : PwmCh → Param
  | .pumpM => .slewPump .motor
  | .pumpB => .slewPump .battery
  | .fan => .slewFan
  | .comp => .slewComp
  | .heatC => .slewHeat
  | .heatB => .slewHeat

/-- The map of a source between its points: the rows of R137 after the first. -/
def mapBetween (src : Nat) : List (Nat × Nat) → Nat
  | (x0, y0) :: (x1, y1) :: rest =>
    if x1 ≤ src then mapBetween src ((x1, y1) :: rest)
    else ((y0 : Int) + (((y1 : Int) - y0) * ((src : Int) - x0)).tdiv ((x1 : Int) - x0)).toNat
  | [(_, y0)] => y0
  | [] => 0

/-- The map of a source quantity through four points (R137). -/
def mapDuty (pts : List (Nat × Nat)) (src : Nat) : Nat :=
  if src = 0 then 0
  else if src ≤ (pts.headD (0, 0)).1 then (pts.headD (0, 0)).2
  else mapBetween src pts

/-- The four points of a map (R137). -/
def State.mapPoints (s : State) (point : Fin 4 → Param) : List (Nat × Nat) :=
  ([0, 1, 2, 3] : List (Fin 4)).map (fun i =>
    ((s.param (point i)).value.toNat, (s.param (point i)).second.toNat))

/-- The floor of a loop's pump in the regime a grant set records (R83). -/
def State.pumpFloor (s : State) (l : Loop) (r : Regime) : Nat :=
  match r, l with
  | .drive, _ => s.num (.pumpMin l)
  | .priming, .motor => s.num (.pumpMin .motor)
  | .charge, .motor => s.num (.pumpMin .motor)
  | .priming, .battery => max (s.num (.pumpMin .battery)) (s.num .pumpChargeMin)
  | .charge, .battery => max (s.num (.pumpMin .battery)) (s.num .pumpChargeMin)
  | .park, _ => 0
  | .dormant, _ => 0
  | .noRegime, _ => 0

/-- A heater's duty: linear over PTC_MAX, 0 if PTC_MAX is 0 (R136). -/
def heaterDuty (grant ptcMax : Nat) : Nat := if ptcMax = 0 then 0 else 1000 * grant / ptcMax

/-- A channel's target from a grant set and the parameters as they stand (R136). -/
def State.targetOf (s : State) (g : GrantSet) : PwmCh → Nat
  | .pumpM => max (s.pumpFloor .motor g.regime) (mapDuty (s.mapPoints (.pumpMap .motor)) (g.loopTotal.get 0))
  | .pumpB => max (s.pumpFloor .battery g.regime) (mapDuty (s.mapPoints (.pumpMap .battery)) (g.loopTotal.get 1))
  | .fan =>
    if g.avail.scav then s.num .fanMin
    else max (s.num .fanMin) (mapDuty (s.mapPoints .fanMap) g.radTotal)
  | .comp => mapDuty (s.mapPoints .compMap) g.compTotal
  | .heatC => heaterDuty g.heatCabin (s.num .ptcMax)
  | .heatB => heaterDuty g.heatBattery (s.num .ptcMax)

/-- A setpoint moved toward its target by at most the slew (R139). -/
def slewed (setpoint target slew : Nat) : Nat :=
  if setpoint ≤ target then (if target - setpoint ≤ slew then target else setpoint + slew)
  else (if setpoint - target ≤ slew then target else setpoint - slew)

/-- A channel at a publication. Its target is kept; outside DORMANT its setpoint slews and is handed on as the pending duty unless
a force stands (R136, R139, R143). -/
def PwmChannel.publish (c : PwmChannel) (target slew : Nat) (r : Regime) : PwmChannel :=
  if r = .dormant then { c with target := target }
  else
    let sp := slewed c.setpoint target slew
    { c with
      target := target
      setpoint := sp
      pendingDuty := if c.force.isSome then c.pendingDuty else some sp }

/-- One channel's part of a publication (R136, R139). -/
def State.publishOut (s : State) (g : GrantSet) (c : PwmCh) : State :=
  s.setOut c ((s.out c).publish (s.targetOf g c) (s.num (slewParam c)) g.regime)

/-- The Actuator Drive at a publication (R49, R136, R139). -/
def State.publishOutputs (s : State) (g : GrantSet) : State :=
  allPwm.foldl (fun t c => t.publishOut g c) s

/-- A period boundary: the pending duty is applied, and a period of the present PWM_PERIOD begins (R134, R135). -/
def PwmChannel.boundary (c : PwmChannel) (period : Nat) : PwmChannel :=
  { c with
    applied := c.pendingDuty.getD c.applied
    pendingDuty := none
    period := period
    periodLeft := some period }

/-- The boundary of one channel, at the end of the period in progress (R134, log 2). -/
def takeBoundary (s : State) (c : PwmCh) : State :=
  if ranOut (s.out c).periodLeft then s.setOut c ((s.out c).boundary (s.num (periodParam c))) else s

/-- The level of a channel's output: active for applied duty x period div 1000 microseconds from the boundary (R134). Until the next
boundary is taken the period is in its last microsecond, so a duty of 1000 is active throughout. -/
def PwmChannel.level (c : PwmChannel) : Bool :=
  decide (c.period - max 1 (c.periodLeft.getD 0) < c.applied * c.period / 1000)

/-- A force set on a channel and handed on as its pending duty (R145). -/
def PwmChannel.forced (c : PwmChannel) (duty : Nat) : PwmChannel :=
  { c with force := some duty, pendingDuty := some duty }

/-- A force released: the setpoint is handed on, whether or not a force stood (R146). -/
def PwmChannel.released (c : PwmChannel) : PwmChannel :=
  { c with force := none, pendingDuty := some c.setpoint }

/-- A channel at RUN entry: a force is cleared and the setpoint handed on; a channel without one is left (R141). -/
def PwmChannel.unforced (c : PwmChannel) : PwmChannel := if c.force.isSome then c.released else c

/-- RUN entry at the Actuator Drive (R141). -/
def State.clearForces (s : State) : State := { s with pwm := mapTable PwmChannel.unforced s.pwm }

/-- The channel a FORCE names (R133, R145). -/
def pwmOfByte (b : Byte) : Option PwmCh :=
  match b.toNat with
  | 0 => some .pumpM
  | 1 => some .pumpB
  | 2 => some .fan
  | 3 => some .comp
  | 4 => some .heatC
  | 5 => some .heatB
  | _ => none

/-- PERIOD_BOUNDARY. -/
def execPeriodBoundary (c : PwmCh) (s : State) : Host.Outcome State Fault Refusal := .next (takeBoundary s c)

end Sys2Proof.Machine
end

