-- ==== Sys2Proof/Machine/CircuitMode.lean ====
section
/-!
DEFINITION. The Circuit Mode Controller: availability, travel and arrival, mode selection, and its commands (R52 to R69).
-/

namespace Sys2Proof.Machine

/-- The paths a mode opens (R52). -/
def modePaths : Mode → Availability
  | .separate => { radM := true, radB := false, scav := false }
  | .series => { radM := true, radB := true, scav := false }
  | .scavenge => { radM := false, radB := false, scav := true }

/-- The availability: a settled mode's row, and otherwise what both end modes open (R52, R53). -/
def Valve.availability (v : Valve) : Availability :=
  match v.state with
  | .settled => modePaths v.toMode
  | .travel | .retryWait | .locked =>
    { radM := (modePaths v.fromMode).radM && (modePaths v.toMode).radM
      radB := (modePaths v.fromMode).radB && (modePaths v.toMode).radB
      scav := (modePaths v.fromMode).scav && (modePaths v.toMode).scav }

/-- The code of a mode on VALVE_1 and VALVE_0; the rest code is 3 (R55). -/
def modeCode : Mode → BitVec 2
  | .separate => 0
  | .series => 1
  | .scavenge => 2

/-- The rest code (R55). -/
def restCode : BitVec 2 := 3

/-- An arrival: SETTLED in the to-mode, dwell started with DWELL, MODE on all ports (R63). -/
def State.arrive (s : State) : State :=
  { s with
    valve :=
      { s.valve with
        state := .settled
        fromMode := s.valve.toMode
        attempt := 0
        travel := none
        dwell := some (seconds (s.num .dwell))
        driveCode := modeCode s.valve.toMode } }.notifyAll .mode

/-- Begin a timed attempt of a travel: TRAVEL_MAX, the to-mode's code on the lines, the release mark by R62. The arrival at the
moment of entry is not in here. -/
def State.beginTravel (s : State) (fromMode toMode : Mode) (attempt : Nat) : State :=
  { s with
    valve :=
      { s.valve with
        state := .travel
        fromMode := fromMode
        toMode := toMode
        attempt := attempt
        dwell := none
        travel := some (seconds (s.num .travelMax))
        release := if fromMode = toMode then true else !s.valveAt
        driveCode := modeCode toMode } }

/-- A travel entered with the release mark set while VALVE_AT is asserted arrives at once (R63). -/
def State.arriveAtEntry (s : State) : State :=
  if s.valve.release = true ∧ s.valveAt = true then s.arrive else s

/-- The travel timer runs out in TRAVEL: RETRY_WAIT after attempt 1 or 2, LOCKED after attempt 3 (R64). Nothing happens in another
state, or while the timer has time left (log 2). -/
def timeoutTravel (s : State) : State :=
  if s.valve.state = .travel ∧ ranOut s.valve.travel = true then
    if s.valve.attempt < 3 then
      { s with
        valve :=
          { s.valve with
            state := .retryWait, travel := some (seconds (s.num .retryDelay)), driveCode := restCode } }
    else
      { s with valve := { s.valve with state := .locked, travel := none, driveCode := restCode } }.notifyAll .mode
  else s

/-- The travel timer runs out in RETRY_WAIT: TRAVEL again, the attempt raised by one (R65). -/
def retryTravel (s : State) : State :=
  if s.valve.state = .retryWait ∧ ranOut s.valve.travel = true then
    (s.beginTravel s.valve.fromMode s.valve.toMode (s.valve.attempt + 1)).arriveAtEntry
  else s

/-- The dwell timer runs out; nothing else happens (R59). -/
def expireDwell (s : State) : State :=
  if s.valve.state = .settled ∧ ranOut s.valve.dwell = true then { s with valve := { s.valve with dwell := none } } else s

/-- VALVE_AT becomes asserted: an arrival in TRAVEL with the release mark set, and nothing otherwise (R63, R65, R67). -/
def assertValveAt (s : State) : State :=
  let t := { s with valveAt := true }
  if t.valve.state = .travel ∧ t.valve.release = true then t.arrive else t

/-- VALVE_AT becomes deasserted: a loss of arrival while SETTLED (R66), the release mark in TRAVEL (R62), and nothing in
RETRY_WAIT or LOCKED (R65, R67). -/
def deassertValveAt (s : State) : State :=
  let t := { s with valveAt := false }
  match t.valve.state with
  | .settled => (t.beginTravel t.valve.toMode t.valve.toMode 1).notifyAll .mode
  | .travel => { t with valve := { t.valve with release := true } }
  | .retryWait => t
  | .locked => t

/-- CLEARVALVE in LOCKED: a fresh travel at attempt 1, MODE on all ports, and the arrival at once where it applies (R68). -/
def State.clearValve (s : State) : State :=
  ((s.beginTravel s.valve.fromMode s.valve.toMode 1).notifyAll .mode).arriveAtEntry

/-! ## Mode selection -/

/-- The battery's selection sense: B/G's if it stands, else that of the posted battery demands (R56). -/
def State.selectionSense (s : State) : Option Sense :=
  if (s.demand (gIx .battery)).stands then some (s.demand (gIx .battery)).sense
  else
    match (postedSlots .battery).find? (fun i => (s.demand i).stands) with
    | some i => some (s.demand i).sense
    | none => none

/-- Some PROTECT-tier MOTOR COOL demand stands, posted or synthetic (R58). -/
def State.protectMotorCool (s : State) : Bool :=
  allSlots.any (fun i =>
    (s.demand i).stands && zoneOfIx i == .motor && (s.demand i).sense == .cool && (s.demand i).tier == .protect)

/-- The tests of SERIES (R58). -/
def State.seriesWanted (s : State) : Bool :=
  s.selectionSense == some .cool && s.usable .tbOut && s.usable .ta && s.usable .tmOut &&
    decide (s.tempValue .ta + s.num .seriesMargin ≤ s.tempValue .tbOut) &&
    decide (s.tempValue .tmOut ≤ s.tempValue .tbOut + s.num .seriesSpread)

/-- The tests of SCAVENGE (R58). -/
def State.scavengeWanted (s : State) : Bool :=
  s.selectionSense == some .heat && s.usable .tmOut && s.usable .tbOut &&
    decide (s.tempValue .tbOut + s.num .scavMargin ≤ s.tempValue .tmOut) &&
    decide (0 < s.num .scavK) && !s.protectMotorCool

/-- The candidate mode (R58). -/
def State.candidate (s : State) : Mode :=
  if s.seriesWanted then .series else if s.scavengeWanted then .scavenge else .separate

/-- The valve path of a service in an availability; a cabin service and MOTOR HEAT have none (R52). -/
def pathOpen (z : Zone) (sense : Sense) (a : Availability) : Bool :=
  match z, sense with
  | .motor, .cool => a.radM
  | .battery, .cool => a.radB
  | .battery, .heat => a.scav
  | .motor, .heat => false
  | .cabin, .cool => false
  | .cabin, .heat => false

/-- A posted demand of a zone whose G demand stands with the opposite sense (R16). -/
def State.opposedBySynthetic (s : State) (i : Fin 15) : Bool :=
  let g := s.demand (gIx (zoneOfIx i))
  i != gIx (zoneOfIx i) && g.stands && g.sense != (s.demand i).sense

/-- The protect bypass toward a candidate from the settled mode (R61). -/
def State.bypass (s : State) (c : Mode) : Bool :=
  allSlots.any (fun i =>
    (s.demand i).stands && (s.demand i).tier == .protect && !s.opposedBySynthetic i &&
      pathOpen (zoneOfIx i) (s.demand i).sense (modePaths c) &&
      !pathOpen (zoneOfIx i) (s.demand i).sense (modePaths s.valve.toMode))

/-- Mode selection at a publication, only while SETTLED: a move starts if the candidate differs and the dwell has run out or the
bypass applies (R57, R60). -/
def State.selectMode (s : State) : State :=
  if s.valve.state = .settled ∧ s.candidate ≠ s.valve.toMode ∧ (s.valve.dwell = none ∨ s.bypass s.candidate = true) then
    (s.beginTravel s.valve.toMode s.candidate 1).notifyAll .mode
  else s

/-- DWELL_EXPIRY. -/
def execDwellExpiry (s : State) : Host.Outcome State Fault Refusal := .next (expireDwell s)

/-- TRAVEL_TIMEOUT. -/
def execTravelTimeout (s : State) : Host.Outcome State Fault Refusal := .next (timeoutTravel s)

/-- RETRY_ATTEMPT. -/
def execRetryAttempt (s : State) : Host.Outcome State Fault Refusal := .next (retryTravel s)

/-- VALVE_AT_ASSERTED. -/
def execValveAtAsserted (s : State) : Host.Outcome State Fault Refusal := .next (assertValveAt s)

/-- VALVE_AT_DEASSERTED. -/
def execValveAtDeasserted (s : State) : Host.Outcome State Fault Refusal := .next (deassertValveAt s)

end Sys2Proof.Machine
end

