-- ==== Sys2Proof/Machine/Sharing.lean ====
section
/-!
DEFINITION. Sharing one pool (R33, R34) and the four resources in turn (R24 to R42), up to the grant set of R47.
-/

namespace Sys2Proof.Machine

/-! ## One pool -/

/-- One demand's claim on a pool. `want` is its residual if it is eligible at this resource and 0 if it is not; `got` is what it
has been granted from this pool so far. -/
structure Claim where
  ix : Fin 15
  tier : Tier
  weight : Nat
  want : Nat
  got : Nat
deriving DecidableEq, Repr

/-- A claim in the set E of a tier's pass (R33). -/
def Claim.inTier (c : Claim) (t : Tier) : Bool := c.tier == t && decide (0 < c.want)

/-- Grant g hu to a claim. -/
def Claim.take (c : Claim) (g : Nat) : Claim := { c with want := c.want - g, got := c.got + g }

/-- A claim's share of one pass from pool P and weight sum W (R33). -/
def Claim.share (c : Claim) (pool weightSum : Nat) : Nat := min c.want (pool * c.weight / weightSum)

/-- The sum of the effective weights of E (R33). -/
def weightSum (t : Tier) (cs : List Claim) : Nat := ((cs.filter (fun c => c.inTier t)).map Claim.weight).sum

/-- The sum of the shares of one pass (R33). -/
def shareSum (t : Tier) (pool : Nat) (cs : List Claim) : Nat :=
  ((cs.filter (fun c => c.inTier t)).map (fun c => c.share pool (weightSum t cs))).sum

/-- Every share of one pass granted (R33, step 3). -/
def grantShares (t : Tier) (pool : Nat) (cs : List Claim) : List Claim :=
  cs.map (fun c => if c.inTier t then c.take (c.share pool (weightSum t cs)) else c)

/-- One hu to the claim of one slot. -/
def dealOne (t : Tier) (i : Fin 15) (cs : List Claim) : List Claim :=
  cs.map (fun c => if c.ix = i ∧ c.inTier t = true then c.take 1 else c)

/-- The remainder dealt along the age list, oldest first, one hu to each member of E, until the pool is 0 (R34). -/
def deal (t : Tier) : List (Fin 15) → Nat → List Claim → Nat × List Claim
  | [], pool, cs => (pool, cs)
  | i :: rest, pool, cs =>
    if pool = 0 then (pool, cs)
    else if cs.any (fun c => decide (c.ix = i) && c.inTier t) then deal t rest (pool - 1) (dealOne t i cs)
    else deal t rest pool cs

/-- A tier's passes (R33). The fuel bounds the passes: each grants or deals at least one hu. -/
def tierPasses (t : Tier) (age : List (Fin 15)) : Nat → Nat → List Claim → Nat × List Claim
  | 0, pool, cs => (pool, cs)
  | fuel + 1, pool, cs =>
    if pool = 0 ∨ cs.any (fun c => c.inTier t) = false then (pool, cs)
    else if 0 < shareSum t pool cs then
      tierPasses t age fuel (pool - shareSum t pool cs) (grantShares t pool cs)
    else
      tierPasses t age fuel (deal t age pool cs).1 (deal t age pool cs).2

/-- One tier of a pool, to its end. -/
def shareTier (t : Tier) (age : List (Fin 15)) (r : Nat × List Claim) : Nat × List Claim :=
  tierPasses t age r.1 r.1 r.2

/-- A pool shared among the tiers, highest first (R33): what is left of it, and the claims with what they got. -/
def sharePool (age : List (Fin 15)) (pool : Nat) (cs : List Claim) : Nat × List Claim :=
  shareTier .comfort age (shareTier .drive age (shareTier .charge age (shareTier .protect age (pool, cs))))

/-! ## The standing demands of one cycle -/

/-- A standing demand as one cycle sees it (R23, R26), with its grants so far. -/
structure Claimant where
  ix : Fin 15
  sense : Sense
  tier : Tier
  weight : Nat
  asked : Nat
  held : Bool
  scav : Nat
  rad : Nat
  comp : Nat
  ptc : Nat
deriving DecidableEq, Repr

/-- Granted so far in the cycle, from every resource. -/
def Claimant.total (e : Claimant) : Nat := e.scav + e.rad + e.comp + e.ptc

/-- What a demand still lacks (R26). -/
def Claimant.residual (e : Claimant) : Nat := e.asked - e.total

/-- A demand's zone. -/
def Claimant.zone (e : Claimant) : Zone := zoneOfIx e.ix

/-- A tier is permitted in a regime (R25). The regime of SETUP is no column of R25 and no cycle runs in it. -/
def tierPermitted (t : Tier) (r : Regime) : Bool :=
  match t with
  | .protect => true
  | .charge => r == .charge
  | .drive => r == .drive
  | .comfort => true

/-- A standing demand is held in this cycle (R16). -/
def State.isHeld (s : State) (i : Fin 15) : Bool :=
  !tierPermitted (s.demand i).tier s.regime.regime || ((s.demand i).tier == .comfort && s.shed) ||
    s.opposedBySynthetic i

/-- One standing demand at the start of a cycle. -/
def State.claimant (s : State) (i : Fin 15) : Claimant :=
  { ix := i, sense := (s.demand i).sense, tier := (s.demand i).tier, weight := (s.demand i).effectiveWeight,
    asked := (s.demand i).asked, held := s.isHeld i, scav := 0, rad := 0, comp := 0, ptc := 0 }

/-- Every standing demand at the start of a cycle (R23). -/
def State.claimants (s : State) : List Claimant :=
  (allSlots.filter (fun i => (s.demand i).stands)).map s.claimant

/-- A demand asks for a service (R24). -/
def Claimant.asks (e : Claimant) (z : Zone) (x : Sense) : Bool := e.zone == z && e.sense == x

/-- SCAV serves BATTERY HEAT while SCAV is available (R24, R36). -/
def scavServes (a : Availability) (e : Claimant) : Bool := a.scav && e.asks .battery .heat

/-- SCAV credit serves MOTOR COOL (R37). -/
def creditServes (e : Claimant) : Bool := e.asks .motor .cool

/-- RAD serves the cooling services whose path is available (R24, R38). -/
def radServes (a : Availability) (e : Claimant) : Bool :=
  (a.radM && e.asks .motor .cool) || (a.radB && e.asks .battery .cool)

/-- COMP serves every battery and cabin service (R24, R39). -/
def compServes (e : Claimant) : Bool :=
  e.asks .battery .cool || e.asks .battery .heat || e.asks .cabin .cool || e.asks .cabin .heat

/-- PTC serves BATTERY HEAT and CABIN HEAT (R24, R41). -/
def ptcServes (e : Claimant) : Bool := e.asks .battery .heat || e.asks .cabin .heat

/-- A demand's claim at a resource that serves it or not; a held demand is eligible nowhere (R25, R26). -/
def Claimant.claim (e : Claimant) (serves : Bool) : Claim :=
  { ix := e.ix, tier := e.tier, weight := e.weight, want := if serves && !e.held then e.residual else 0, got := 0 }

/-- One resource shared among the demands it serves; `record` keeps a demand's grant from it (R33, R35). -/
def runStage (age : List (Fin 15)) (pool : Nat) (serves : Claimant → Bool) (record : Claimant → Nat → Claimant)
    (es : List Claimant) : List Claimant :=
  List.zipWith (fun e c => if serves e then record e c.got else e) es
    (sharePool age pool (es.map (fun e => e.claim (serves e)))).2

def Claimant.withScav (e : Claimant) (g : Nat) : Claimant := { e with scav := g }
def Claimant.withRad (e : Claimant) (g : Nat) : Claimant := { e with rad := g }
def Claimant.withComp (e : Claimant) (g : Nat) : Claimant := { e with comp := g }
def Claimant.withPtc (e : Claimant) (g : Nat) : Claimant := { e with ptc := g }

/-! ## The pools -/

/-- A coefficient times a temperature difference, div 100; a difference below 0 gives 0 (R28, R29). -/
def heatOf (k : Nat) (dT : Int) : Nat := k * dT.toNat / 100

/-- The SCAV pool (R27, R28). -/
def State.scavPool (s : State) (a : Availability) : Nat :=
  if a.scav && s.usable .tmOut && s.usable .tbOut then
    min (s.num .scavMax) (heatOf (s.num .scavK) (s.tempValue .tmOut - s.tempValue .tbOut))
  else 0

/-- The RAD pool (R27, R29). -/
def State.radPool (s : State) (a : Availability) : Nat :=
  if a.radB then
    (if s.usable .tmOut && s.usable .tbOut && s.usable .ta then
      min (s.num .radMax) (heatOf (s.num .radK) (max (s.tempValue .tmOut) (s.tempValue .tbOut) - s.tempValue .ta))
    else 0)
  else if a.radM then
    (if s.usable .tmOut && s.usable .ta then
      min (s.num .radMax) (heatOf (s.num .radK) (s.tempValue .tmOut - s.tempValue .ta))
    else 0)
  else 0

/-- CompAvail, the compressor's heat derated by TR (R30). -/
def State.compAvail (s : State) : Nat :=
  if s.usable .tr = false then 0
  else if s.int .trCutoff ≤ s.tempValue .tr then 0
  else if s.tempValue .tr ≤ s.int .trDerate then s.num .compMax
  else s.num .compMax * (s.int .trCutoff - s.tempValue .tr).toNat / (s.int .trCutoff - s.int .trDerate).toNat

/-- The COMP pool under an allowance (R31). -/
def State.compPool (s : State) (allowance : Nat) : Nat := min s.compAvail (allowance * s.num .cop / 8)

/-- The compressor's draw for its heat (R42). -/
def compDrawOf (gcomp cop : Nat) : Nat := (gcomp * 8 + cop - 1) / cop

/-- The PTC pool from what the allowance has left (R32). -/
def State.ptcPool (s : State) (allowance compDraw : Nat) : Nat := min (s.num .ptcMax) (allowance - compDraw)

/-! ## The allowance -/

/-- A pending allowance comes into force at the cycle expiry with a fresh lease (R45). -/
def State.settleAllowance (s : State) : State :=
  match s.alloc.pendingAllow with
  | some (value, lease) =>
    { s with
      alloc :=
        { s.alloc with inForce := .granted value, allowLease := some (seconds lease), pendingAllow := none } }
  | none => s

/-- The value of the allowance in force: SAFE is SAFE_ALLOW as it stands (R43). -/
def State.allowanceValue (s : State) : Nat :=
  match s.alloc.inForce with
  | .noAllowance => 0
  | .safe => s.num .safeAllow
  | .granted v => v

def Allowance.source : Allowance → AllowSource
  | .noAllowance => .noAllowance
  | .safe => .safe
  | .granted _ => .granted

/-! ## The resources in turn -/

/-- The sum of one amount over the demands of a cycle. -/
def sumOf (f : Claimant → Nat) (es : List Claimant) : Nat := (es.map f).sum

/-- The sum of one amount over the demands of a zone. -/
def sumZone (z : Zone) (f : Claimant → Nat) (es : List Claimant) : Nat := sumOf f (es.filter (fun e => e.zone == z))

/-- After SCAV (R36). -/
def State.afterScav (s : State) : List Claimant :=
  runStage s.age (s.scavPool s.valve.availability) (scavServes s.valve.availability) Claimant.withScav s.claimants

/-- The SCAV total S (R36). -/
def State.scavGranted (s : State) : Nat := sumZone .battery Claimant.scav s.afterScav

/-- After SCAV credit, a second pool of S for MOTOR COOL (R37). -/
def State.afterCredit (s : State) : List Claimant :=
  runStage s.age s.scavGranted creditServes Claimant.withScav s.afterScav

/-- After RAD (R38). -/
def State.afterRad (s : State) : List Claimant :=
  runStage s.age (s.radPool s.valve.availability) (radServes s.valve.availability) Claimant.withRad s.afterCredit

/-- After COMP, before the compressor minimum (R39). -/
def State.afterComp (s : State) : List Claimant :=
  runStage s.age (s.compPool s.allowanceValue) compServes Claimant.withComp s.afterRad

/-- Gcomp before the compressor minimum (R39). -/
def State.compShared (s : State) : Nat := sumOf Claimant.comp s.afterComp

/-- The compressor minimum revokes every COMP grant of this cycle (R40). -/
def State.compRevoked (s : State) : Bool := decide (0 < s.compShared) && decide (s.compShared < s.num .compMin)

/-- After the compressor minimum (R40). -/
def State.afterMinimum (s : State) : List Claimant :=
  if s.compRevoked then s.afterComp.map (fun e => e.withComp 0) else s.afterComp

/-- Gcomp (R40). -/
def State.compGranted (s : State) : Nat := if s.compRevoked then 0 else s.compShared

/-- The compressor draw (R42). -/
def State.compDraw (s : State) : Nat := compDrawOf s.compGranted (s.num .cop)

/-- After PTC (R41). -/
def State.afterPtc (s : State) : List Claimant :=
  runStage s.age (s.ptcPool s.allowanceValue s.compDraw) ptcServes Claimant.withPtc s.afterMinimum

/-- A zone's loop sense: that of its granted demands, none where the loop total is 0 (R47). -/
def loopSenseOf (z : Zone) (es : List Claimant) : Option Sense :=
  match es.find? (fun e => e.zone == z && decide (0 < e.total)) with
  | some e => some e.sense
  | none => none

/-- A demand's entry in the grant set (R47). -/
def Claimant.entry (e : Claimant) : GrantEntry :=
  { ix := e.ix, held := e.held, scav := e.scav, rad := e.rad, comp := e.comp, ptc := e.ptc }

/-- The grant set of a cycle, from a state whose allowance is settled (R47). -/
def State.grantSet (s : State) : GrantSet :=
  let es := s.afterPtc
  let ptc := sumOf Claimant.ptc es
  { seq := s.alloc.seq + 1
    regime := s.regime.regime
    avail := s.valve.availability
    entries := es.map Claimant.entry
    scavPool := s.scavPool s.valve.availability
    radPool := s.radPool s.valve.availability
    compPool := s.compPool s.allowanceValue
    ptcPool := s.ptcPool s.allowanceValue s.compDraw
    scavTotal := s.scavGranted
    creditTotal := sumZone .motor Claimant.scav es
    radTotal := sumOf Claimant.rad es
    compTotal := s.compGranted
    revoked := if s.compRevoked then s.compShared else 0
    ptcTotal := ptc
    loopTotal := #v[sumZone .motor Claimant.total es, sumZone .battery Claimant.total es,
      sumZone .cabin Claimant.total es]
    loopSense := #v[loopSenseOf .motor es, loopSenseOf .battery es, loopSenseOf .cabin es]
    heatCabin := sumZone .cabin Claimant.ptc es
    heatBattery := sumZone .battery Claimant.ptc es
    compDraw := s.compDraw
    heaterDraw := ptc
    totalDraw := s.compDraw + ptc
    allowance := s.allowanceValue
    source := s.alloc.inForce.source }

end Sys2Proof.Machine
end

