-- ==== Sys2Proof/Machine/Cycle.lean ====
section
/-!
DEFINITION. The cycle expiry: the timer's next period, the allowance, the allocation, the write-back, the publication and what
four blocks do on it (R16, R17, R22, R45 to R49, R109 to R114, R176); and the allowance lease expiry (R46).
-/

namespace Sys2Proof.Machine

/-! ## Write-back -/

/-- What a cycle leaves in a standing demand's slot (R16, R17). -/
def Demand.writeBack (d : Demand) (e : GrantEntry) (starveLimit : Nat) : Demand :=
  if e.held then { d with state := .held, granted := 0 }
  else if e.total = d.asked then
    { d with state := .served, granted := e.total, starveCount := 0, starveMark := false }
  else if 0 < e.total then
    { d with state := .partly, granted := e.total, starveCount := 0, starveMark := false }
  else
    { d with
      state := .starved
      granted := 0
      starveCount := min 255 (d.starveCount + 1)
      starveMark := d.starveMark || decide (starveLimit ≤ min 255 (d.starveCount + 1)) }

/-- The starve mark goes from clear to set in this write-back, which raises STARVE (R17). -/
def Demand.raisesStarve (d : Demand) (e : GrantEntry) (starveLimit : Nat) : Bool :=
  !d.starveMark && (d.writeBack e starveLimit).starveMark

/-- One entry written back, with STARVE on the port of the demand's zone where it is raised (R16, R17). -/
def State.writeBackEntry (s : State) (e : GrantEntry) : State :=
  let d := s.demand e.ix
  let t := s.setDemand e.ix (d.writeBack e (s.num .starveLimit))
  if d.raisesStarve e (s.num .starveLimit) then t.notify .starve (zonePort (zoneOfIx e.ix)) else t

/-- Every standing demand written back (R16). -/
def State.writeBackAll (s : State) (g : GrantSet) : State := g.entries.foldl State.writeBackEntry s

/-! ## Publication -/

/-- The new grant set is published and the old one becomes the previous (R48). -/
def State.publish (s : State) (g : GrantSet) : State :=
  { s with alloc := { s.alloc with seq := g.seq, published := some g, previous := s.alloc.published } }

/-- Move a port's cursor and set its mark if the record dropped was the one at its cursor (R176). -/
def LinkPort.dropRecord (l : LinkPort) (dropped : Nat) : LinkPort :=
  if l.cursor = dropped then { l with cursor := dropped + 1, overrun := true } else l

/-- Append a snapshot, dropping the oldest of 32 records (R176). -/
def State.appendSnapshot (s : State) (x : Snapshot) : State :=
  if s.ring.records.length < 32 then
    { s with ring := { records := s.ring.records ++ [x], appended := s.ring.appended + 1 } }
  else
    { s with
      ring := { records := s.ring.records.tail ++ [x], appended := s.ring.appended + 1 }
      ports := mapTable (fun l => l.dropRecord (s.ring.appended + 1 - s.ring.records.length)) s.ports }

/-- The snapshot of a grant set, with the valve as the publication found it (R176). -/
def State.snapshotOf (s : State) (g : GrantSet) : Snapshot :=
  { seq := g.seq, regime := g.regime, valveState := s.valve.state, toMode := s.valve.toMode, compTotal := g.compTotal,
    radTotal := g.radTotal, ptcTotal := g.ptcTotal, scavTotal := g.scavTotal }

/-! ## Delivered heat and shortfall -/

/-- The heat of a loop in watts, truncated toward zero (R110). -/
def wattsOf (flow cpv : Nat) (dT : Int) : Int := ((flow : Int) * cpv * dT).tdiv 10000

/-- The heat clamped to 60000 W either way (R110). -/
def clampWatts (q : Int) : Int := max (-60000) (min 60000 q)

/-- A loop's delivered-heat record before the judgement (R110, R111). -/
def State.measure (s : State) (l : Loop) : DeliveredRecord :=
  let old := s.record l
  if s.usable (loopOut l) && s.usable (loopIn l) then
    let q := wattsOf (s.flow l).flow (s.num (.cpv l)) (s.tempValue (loopOut l) - s.tempValue (loopIn l))
    { old with delivered := (clampWatts q).tdiv 50, measured := true, saturated := decide (clampWatts q ≠ q) }
  else { old with delivered := 0, measured := false, saturated := false }

/-- A zone's loop total in a grant set that may be absent: 0 then (R48). -/
def prevTotal (g : Option GrantSet) (l : Loop) : Nat :=
  match g with
  | some x => x.loopTotal.get (zoneIx (loopZone l))
  | none => 0

/-- A zone's loop sense in a grant set that may be absent (R48). -/
def prevSense (g : Option GrantSet) (l : Loop) : Option Sense :=
  match g with
  | some x => x.loopSense.get (zoneIx (loopZone l))
  | none => none

/-- Delivered heat in the direction the loop was granted (R112). -/
def signedDelivered (d : Int) : Option Sense → Int
  | some .heat => -d
  | some .cool => d
  | none => d

/-- The loop fell short at this publication (R112); `settled` is the valve as the publication found it (R113). -/
def State.fellShort (s : State) (l : Loop) (settled : Bool) : Bool :=
  let g := prevTotal s.alloc.previous l
  decide (0 < g) && settled && (s.flow l).tag != .stall &&
    decide (signedDelivered (s.measure l).delivered (prevSense s.alloc.previous l) <
      ((g * s.num (.shortPct l) / 100 : Nat) : Int))

/-- A loop's record after the judgement of R112. -/
def State.judged (s : State) (l : Loop) (settled : Bool) : DeliveredRecord :=
  let m := s.measure l
  if m.measured = false then m
  else if s.fellShort l settled then { m with shortfall := min 255 (m.shortfall + 1) }
  else { m with shortfall := 0 }

/-- SHORT after the judgement (R114). -/
def State.shortAfter (s : State) (l : Loop) (settled : Bool) : Bool :=
  let before := (s.zone (loopZone l)).cond.short
  if (s.measure l).measured = false then before
  else if s.fellShort l settled then
    before || decide (s.num (.shortCycles l) ≤ (s.judged l settled).shortfall)
  else false

/-- One loop at a publication: record, SHORT, SHORTFALL when SHORT is set, and the guard (R109 to R114, R122). -/
def State.judgeLoop (s : State) (l : Loop) (settled : Bool) : State :=
  let z := loopZone l
  let short := s.shortAfter l settled
  let a := s.setRecord l (s.judged l settled)
  let b := if short && !(s.zone z).cond.short then a.notify .shortfall (zonePort z) else a
  b.withConditions z { (s.zone z).cond with short := short }

/-- What the blocks do on a publication (R49). The History Ring and the judgement take the valve as the publication found it
(R113, R176), and mode selection the Demand Table before a guard acts on a change of SHORT (R114, R122), so selection stands
before the judgement here, which is given the valve from before it. The manual gives no order of the two loops: MOTOR before
BATTERY is the model's choice, and where SHORT trips both zones' SYNTH guards at once it makes M/G older than B/G (log 25, DESIGN
CHOICE). -/
def State.onPublication (s : State) (g : GrantSet) : State :=
  let settled := s.valve.state == .settled
  let a := s.appendSnapshot (s.snapshotOf g)
  let b := a.publishOutputs g
  let c := b.selectMode
  (c.judgeLoop .motor settled).judgeLoop .battery settled

/-! ## The cycle expiry -/

/-- The timer begins its next period, of the length the regime in force calls for, and no later change of the regime touches it (R22,
R82), nor does anything that a publication brings about (R49). For an expiry in DORMANT that a wake follows this is the model's choice
where rules disagree: R22, R49, R80 and R82 let the 10 s period begun there stand, and R144's last sentence makes the wait one full
period of the regime the wake resolved (log 26, DESIGN CHOICE). -/
def State.nextPeriod (s : State) : State :=
  { s with alloc := { s.alloc with cycleLength := s.cyclePeriod, cycleLeft := some s.cyclePeriod } }

/-- One allocation, begun by the cycle timer's expiry and ended by the publication (R23, R48). -/
def State.runCycle (s : State) : State :=
  let a := s.nextPeriod.settleAllowance
  let g := a.grantSet
  ((a.writeBackAll g).publish g).onPublication g

/-- The cycle timer runs out. Nothing happens while it is stopped, that is in SETUP, or has time left (R22, log 2). -/
def expireCycle (s : State) : State := if ranOut s.alloc.cycleLeft then s.runCycle else s

/-- The allowance lease runs out: SAFE in force, ALLOWANCE on port B; a pending allowance is left (R46). A lease that a cycle expiry
has made afresh does not expire (R46, log 2). -/
def expireAllowance (s : State) : State :=
  if ranOut s.alloc.allowLease then
    { s with alloc := { s.alloc with inForce := .safe, allowLease := none } }.notify .allowance .B
  else s

/-- The Allocator at RUN entry: the cycle timer starts, SAFE in force, nothing pending (R22, R43). -/
def State.allocatorRunEntry (s : State) : State :=
  { s with
    alloc :=
      { s.alloc with
        cycleLength := s.cyclePeriod
        cycleLeft := some s.cyclePeriod
        inForce := .safe
        allowLease := none
        pendingAllow := none } }

/-- CYCLE_EXPIRY. -/
def execCycleExpiry (s : State) : Host.Outcome State Fault Refusal := .next (expireCycle s)

/-- ALLOWANCE_LEASE_EXPIRY. -/
def execAllowanceLeaseExpiry (s : State) : Host.Outcome State Fault Refusal := .next (expireAllowance s)

end Sys2Proof.Machine
end

