-- ==== Sys2Proof/Machine/Temperature.lean ====
section
/-!
DEFINITION. The Temperature Front End: classification, mapping, filter, tags, hold and recovery (R87 to R102).
-/

namespace Sys2Proof.Machine

/-- The eight conversion points, code and temperature, from point 0 to point 7 (R90). -/
def State.convPoints (s : State) : List (Int × Int) :=
  ([0, 1, 2, 3, 4, 5, 6, 7] : List (Fin 8)).map (fun i => ((s.param (.convPt i)).value, (s.param (.convPt i)).second))

/-- Each number is above the one before it. -/
def ascending : List Int → Bool
  | a :: b :: rest => decide (a < b) && ascending (b :: rest)
  | [_] => true
  | [] => true

/-- Each number is below the one before it. -/
def descending : List Int → Bool
  | a :: b :: rest => decide (b < a) && descending (b :: rest)
  | [_] => true
  | [] => true

/-- The order test of the conversion table (R90). -/
def orderTest (pts : List (Int × Int)) : Bool :=
  ascending (pts.map Prod.fst) && (ascending (pts.map Prod.snd) || descending (pts.map Prod.snd))

/-- The conversion table is ready: all eight points written since reset, and the order test passed (R90). -/
def State.tableReady (s : State) : Bool :=
  ([0, 1, 2, 3, 4, 5, 6, 7] : List (Fin 8)).all (fun i => (s.param (.convPt i)).written) && orderTest s.convPoints

/-- Linear interpolation in the highest segment whose code does not exceed c, truncating toward zero (R91). -/
def interpolate (c : Int) : List (Int × Int) → Int
  | (c0, t0) :: (c1, t1) :: rest =>
    if c1 ≤ c then interpolate c ((c1, t1) :: rest) else t0 + ((t1 - t0) * (c - c0)).tdiv (c1 - c0)
  | [(_, t0)] => t0
  | [] => 0

/-- The reading and tag of a good conversion: interpolated inside the table, clamped to its ends outside (R91, R92). -/
def mapCode (pts : List (Int × Int)) (c : Int) : Int × TempTag :=
  let first := pts.headD (0, 0)
  let last := pts.getLastD (0, 0)
  if c < first.1 then (first.2, if first.2 < last.2 then .clampedLow else .clampedHigh)
  else if last.1 < c then (last.2, if last.2 < first.2 then .clampedLow else .clampedHigh)
  else (interpolate c pts, .good)

/-- The filter's new value (R93). -/
def filterValue (k : Nat) (filtered reading : Int) : Int :=
  if k = 0 then reading
  else
    let step : Int := (((reading - filtered).natAbs + 2 ^ (k - 1)) / 2 ^ k : Nat)
    if filtered ≤ reading then filtered + step else filtered - step

/-- A short or an open: codes 0 to 16 and 4080 to 4095 (R89). -/
def isFaultCode (code : BitVec 12) : Bool := decide (code.toNat ≤ 16) || decide (4080 ≤ code.toNat)

/-- A channel restarted at a reading, from INIT or by recovery (R94, R96, R98). -/
def TempChannel.restart (c : TempChannel) (reading : Int) (tag : TempTag) : TempChannel :=
  { c with lastReading := reading, filtered := reading, tag := tag, hold := none, recover := 0 }

/-- A good conversion in STALE or BLIND: one more toward recovery (R96, R98). -/
def TempChannel.countGood (c : TempChannel) (reading : Int) (tag : TempTag) (recoverCount : Nat) : TempChannel :=
  if recoverCount ≤ c.recover + 1 then c.restart reading tag
  else { c with lastReading := reading, recover := c.recover + 1 }

/-- A good conversion at a channel, by its tag (R94, R95, R96, R98). -/
def TempChannel.goodConversion (c : TempChannel) (reading : Int) (tag : TempTag) (filterK recoverCount : Nat) :
    TempChannel :=
  match c.tag with
  | .init => c.restart reading tag
  | .good | .clampedLow | .clampedHigh =>
    { c with lastReading := reading, filtered := filterValue filterK c.filtered reading, tag := tag }
  | .stale | .blind => c.countGood reading tag recoverCount

/-- A fault conversion at a channel, by its tag; the hold starts with HOLD_TIME half-seconds (R94, R95, R96, R98). -/
def TempChannel.faultConversion (c : TempChannel) (holdTime : Nat) : TempChannel :=
  match c.tag with
  | .init => c
  | .good | .clampedLow | .clampedHigh => { c with tag := .stale, hold := some (halfSeconds holdTime), recover := 0 }
  | .stale | .blind => { c with recover := 0 }

/-- What a conversion makes of its channel (R89, R90). -/
def State.convertedChannel (s : State) (ch : TempCh) (code : BitVec 12) : TempChannel :=
  let c := { s.temp ch with raw := code }
  if isFaultCode code then c.faultConversion (s.num .holdTime)
  else if s.tableReady then
    let m := mapCode s.convPoints (code.toNat : Int)
    c.goodConversion m.1 m.2 (s.num .filterK) (s.num .recoverCount)
  else c

/-- A conversion: the channel's own change first, then the zone conditions where the channel stands for a zone (R89, R100). -/
def convertChannel (s : State) (ch : TempCh) (code : BitVec 12) : State :=
  let t := s.setTemp ch (s.convertedChannel ch code)
  match tempZone ch with
  | some z => t.refreshTemperature z
  | none => t

/-- The hold timer runs out while STALE: BLIND, value and count kept. A recovery taken first stops the hold, which then does not run
out (R97). -/
def expireHold (s : State) (ch : TempCh) : State :=
  if (s.temp ch).tag = .stale ∧ ranOut (s.temp ch).hold = true then
    let t := s.setTemp ch { s.temp ch with tag := .blind, hold := none }
    match tempZone ch with
    | some z => t.refreshBlind z
    | none => t
  else s

/-- A channel returned to its reset state but for the raw code (R90). -/
def TempChannel.toInit (c : TempChannel) : TempChannel := { TempChannel.initial with raw := c.raw }

/-- A taken write of a conversion point: all seven channels to INIT, and the conditions of all three zones (R90, R117). -/
def State.channelsToInit (s : State) : State :=
  let t := { s with temps := mapTable TempChannel.toInit s.temps }
  ((t.refreshInit .motor).refreshInit .battery).refreshInit .cabin

/-- CONVERSION. -/
def execConversion (ch : TempCh) (code : BitVec 12) (s : State) : Host.Outcome State Fault Refusal :=
  .next (convertChannel s ch code)

/-- HOLD_EXPIRY. -/
def execHoldExpiry (ch : TempCh) (s : State) : Host.Outcome State Fault Refusal := .next (expireHold s ch)

end Sys2Proof.Machine
end

