-- ==== Sys2Proof/Machine/Operands.lean ====
section
/-!
DEFINITION. The codes of enumerated values and the byte layouts of records and objects (R167, R174, R175), and the values that
the bytes of a frame stand for.
-/

namespace Sys2Proof.Machine

/-! ## Codes of enumerated values, numbered from 0 in the order their rules list them (R167) -/

/-- The value of the STATUS byte (R166). -/
def Status.code : Status → Byte
  | .ok => 0x00#8
  | .clamped => 0x01#8
  | .restarted => 0x02#8
  | .badCrc => 0x03#8
  | .shortFrame => 0x04#8
  | .unknown => 0x05#8
  | .badArg => 0x06#8
  | .notYours => 0x07#8
  | .locked => 0x08#8
  | .notRunning => 0x09#8
  | .noDemand => 0x0A#8
  | .senseConflict => 0x0B#8
  | .lostUnacked => 0x0C#8
  | .setupOnly => 0x0D#8
  | .notNow => 0x0E#8
  | .empty => 0x0F#8
  | .overrun => 0x10#8

def DemandState.code : DemandState → Nat
  | .free => 0
  | .waiting => 1
  | .served => 2
  | .partly => 3
  | .starved => 4
  | .held => 5

def Sense.code : Sense → Nat
  | .cool => 0
  | .heat => 1

def Tier.code : Tier → Nat
  | .protect => 0
  | .charge => 1
  | .drive => 2
  | .comfort => 3

def TempTag.code : TempTag → Nat
  | .init => 0
  | .good => 1
  | .clampedLow => 2
  | .clampedHigh => 3
  | .stale => 4
  | .blind => 5

def FlowTag.code : FlowTag → Nat
  | .stall => 0
  | .good => 1

def Regime.code : Regime → Nat
  | .noRegime => 0
  | .park => 1
  | .drive => 2
  | .priming => 3
  | .charge => 4
  | .dormant => 5

def ValveState.code : ValveState → Nat
  | .settled => 0
  | .travel => 1
  | .retryWait => 2
  | .locked => 3

def Mode.code : Mode → Nat
  | .separate => 0
  | .series => 1
  | .scavenge => 2

/-- Writer ports: none 0, M 1, B 2, C 3 (R167). -/
def writerCode : Option Port → Nat
  | none => 0
  | some .M => 1
  | some .B => 2
  | some .C => 3

def Presence.code : Presence → Nat
  | .present => 0
  | .absent => 1

def VoteM.code : VoteM → Nat
  | .park => 0
  | .drive => 1

def VoteB.code : VoteB → Nat
  | .noCharge => 0
  | .charge => 1

def GuardState.code : GuardState → Nat
  | .unarmed => 0
  | .armed => 1
  | .tripped => 2

def AllowSource.code : AllowSource → Nat
  | .noAllowance => 0
  | .safe => 1
  | .granted => 2

def SetupState.code : SetupState → Nat
  | .setup => 0
  | .run => 1

def FaultReason.code : FaultReason → Nat
  | .noFault => 0
  | .unwritten => 1
  | .zoneBands => 2
  | .convOrder => 3
  | .mapOrder => 4
  | .compTemps => 5

/-! ## Values of argument bytes -/

/-- Sense COOL 0, HEAT 1 (R167); any other byte is none (R5). -/
def senseOfByte (b : Byte) : Option Sense :=
  if b = 0#8 then some .cool else if b = 1#8 then some .heat else none

/-- Tier PROTECT 0 to COMFORT 3 (R167); any other byte is none (R5). -/
def tierOfByte (b : Byte) : Option Tier :=
  if b = 0#8 then some .protect
  else if b = 1#8 then some .charge
  else if b = 2#8 then some .drive
  else if b = 3#8 then some .comfort
  else none

/-- A posted slot 0 to 3 (R5); any other byte is none. -/
def slotOfByte (b : Byte) : Option (Fin 4) :=
  if h : b.toNat < 4 then some ⟨b.toNat, h⟩ else none

/-! ## Records and objects -/

/-- The demand record of R167: a FREE slot gives zeros (R3). -/
def Demand.record (d : Demand) : List Byte :=
  u8 d.state.code ++ u8 d.sense.code ++ u8 d.tier.code ++ u8 d.effectiveWeight ++ u16 d.asked ++ u16 d.granted ++
    u8 (ceilSeconds d.lease)

/-- The age list's sixteen bytes: the count, the entries oldest first, and $FF beyond them (R175). -/
def State.ageObject (s : State) : List Byte :=
  u8 s.age.length ++ (s.age.map (fun i => BitVec.ofNat 8 i.val) ++ List.replicate 15 0xFF#8).take 15

/-- A zone's flow: that of its loop, 0 for CABIN (R115). -/
def State.zoneFlow (s : State) : Zone → Nat
  | .motor => (s.flow .motor).flow
  | .battery => (s.flow .battery).flow
  | .cabin => 0

/-- A zone's delivered-heat record: CABIN has none and reports 0 and unmeasured (R109, R115). -/
def State.zoneRecord (s : State) : Zone → DeliveredRecord
  | .motor => s.record .motor
  | .battery => s.record .battery
  | .cabin => DeliveredRecord.initial

/-- A zone's loop total in the published grant set, 0 before the first (R174). -/
def State.zoneLoopTotal (s : State) (z : Zone) : Nat :=
  match s.alloc.published with
  | some g => g.loopTotal.get (zoneIx z)
  | none => 0

/-- The zone summary of R167. -/
def State.zoneObject (s : State) (z : Zone) : List Byte :=
  s16 (s.tempValue (zoneTemp z)) ++ u8 (s.temp (zoneTemp z)).tag.code ++ u16 (s.zoneFlow z) ++
    s16 (s.zoneRecord z).delivered ++ u16 (s.zoneLoopTotal z)

/-- The ZONESTATE object (R131): one byte for each field, the five conditions among them. -/
def State.zoneStateObject (s : State) (z : Zone) : List Byte :=
  let c := (s.zone z).cond
  flagByte c.high ++ flagByte c.low ++ flagByte c.stall ++ flagByte c.blind ++ flagByte c.short ++
    flagByte (s.guardMatches z) ++ u8 (s.zone z).guard.code ++ u8 (s.zone z).trips ++ u8 (s.zoneRecord z).shortfall ++
    flagByte (s.zoneRecord z).measured ++ flagByte (s.zoneRecord z).saturated ++ flagByte s.shed

/-- The fields of a RESOURCE object that every resource has (R51, log 14). -/
def resourceFields (pool total : Nat) (g : GrantSet) : List Byte :=
  u16 pool ++ u16 total ++ u16 g.compDraw ++ u16 g.heaterDraw ++ u16 g.totalDraw ++ u16 g.allowance ++ u8 g.source.code

/-- The RESOURCE object of SCAV, RAD, COMP and PTC, 0 to 3, from the published grant set; zeros before the first (R51). -/
def State.resourceObject (s : State) (k : Fin 4) : List Byte :=
  match s.alloc.published, k with
  | none, 0 => List.replicate 15 0#8
  | none, 1 => List.replicate 13 0#8
  | none, 2 => List.replicate 15 0#8
  | none, 3 => List.replicate 13 0#8
  | some g, 0 => resourceFields g.scavPool g.scavTotal g ++ u16 g.creditTotal
  | some g, 1 => resourceFields g.radPool g.radTotal g
  | some g, 2 => resourceFields g.compPool g.compTotal g ++ u16 g.revoked
  | some g, 3 => resourceFields g.ptcPool g.ptcTotal g

/-- The VALVE object (R54). -/
def State.valveObject (s : State) : List Byte :=
  u8 s.valve.state.code ++ u8 s.valve.fromMode.code ++ u8 s.valve.toMode.code ++ u8 s.valve.attempt ++
    u16 (ceilSeconds s.valve.dwell)

/-- The REGIME object (R86). -/
def State.regimeObject (s : State) : List Byte :=
  u8 s.regime.regime.code ++ u8 s.regime.voteM.code ++ u8 s.regime.voteB.code ++ u8 (s.port .M).presence.code ++
    u8 (s.port .B).presence.code ++ u8 (s.port .C).presence.code ++ flagByte s.regime.chargePending

/-- The CHANNEL object (R102). -/
def State.channelObject (s : State) (c : TempCh) : List Byte :=
  s16 (s.temp c).filtered ++ u8 (s.temp c).tag.code ++ u16 (s.temp c).raw.toNat ++ s16 (s.temp c).lastReading

/-- The FLOW object (R108). -/
def State.flowObject (s : State) (l : Loop) : List Byte :=
  u16 (s.flow l).flow ++ u8 (s.flow l).tag.code ++ u8 (s.flow l).periods

/-- The OUTPUT object (R148). -/
def State.outputObject (s : State) (c : PwmCh) : List Byte :=
  u16 (s.out c).setpoint ++ u16 (s.out c).applied ++ flagByte (s.out c).force.isSome

/-- The SETUP object (R161). -/
def State.setupObject (s : State) : List Byte :=
  u8 s.setup.state.code ++ flagByte (s.startVote .M) ++ flagByte (s.startVote .B) ++ flagByte (s.startVote .C) ++
    u8 s.setup.reason.code ++ u8 s.setup.faultId

/-- The RESETREC object (R173). -/
def State.resetObject (s : State) : List Byte := s.resetRecord.cause.code :: u8 s.resetRecord.count

/-- The NOTICES object of a port (R170). -/
def State.noticesObject (s : State) (p : Port) : List Byte :=
  noticeBytes (s.port p).flags ++ noticeBytes (s.port p).enables ++ flagByte (s.port p).attention

/-- The value bytes of a parameter in a SETP or GETP reply: one byte for an enumerated value, which is its place, from 0, in the
list of R149, for a count up to 255, and for the condition set of GUARD_SELECT and GUARD_EXPECT, which so stands in data 1; two for
every other quantity, four for a pair (R167; log 12). -/
def paramValueBytes (q : Param) (e : ParamEntry) : List Byte :=
  match q.row.domain with
  | .convPair => u16 e.value.toNat ++ s16 e.second
  | .mapPair => u16 e.value.toNat ++ u16 e.second.toNat
  | .condSet => u8 e.value.toNat
  | .condExpect => u8 e.value.toNat
  | .oneOf vals => u8 (vals.idxOf e.value.toNat)
  | .num _ _ => if q.oneByte then u8 e.value.toNat else u16 e.value.toNat
  | .temp _ _ => s16 e.value

/-- A parameter in a reply: id, value, writer port, written mark (R154, R155). -/
def State.paramObject (s : State) (q : Param) : List Byte :=
  u8 q.id ++ paramValueBytes q (s.param q) ++ u8 (writerCode (s.param q).writer) ++ flagByte (s.param q).written

/-- The snapshot layout of R167. -/
def Snapshot.bytes (x : Snapshot) : List Byte :=
  u16 x.seq.toNat ++ u8 (x.regime.code * 32 + x.valveState.code * 8 + x.toMode.code) ++ u16 x.compTotal ++
    u16 x.radTotal ++ u8 x.ptcTotal ++ u8 x.scavTotal

/-! ## READ's objects -/

def zoneOfNat (n : Nat) : Option Zone :=
  match n with
  | 0 => some .motor
  | 1 => some .battery
  | 2 => some .cabin
  | _ => none

def loopOfNat (n : Nat) : Option Loop :=
  match n with
  | 0 => some .motor
  | 1 => some .battery
  | _ => none

def tempOfNat (n : Nat) : Option TempCh :=
  match n with
  | 0 => some .tmOut
  | 1 => some .tmIn
  | 2 => some .tbOut
  | 3 => some .tbIn
  | 4 => some .tc
  | 5 => some .ta
  | 6 => some .tr
  | _ => none

/-- The object of a class and index, whole; none for a class or an index outside the table (R174). -/
def State.object (s : State) (p : Port) (cls index : Nat) : Option (List Byte) :=
  match cls with
  | 0x01 => if h : index < 15 then some (s.demand ⟨index, h⟩).record else none
  | 0x02 => if index = 0 then some s.ageObject else none
  | 0x03 => (zoneOfNat index).map s.zoneObject
  | 0x04 => (zoneOfNat index).map s.zoneStateObject
  | 0x05 => if h : index < 4 then some (s.resourceObject ⟨index, h⟩) else none
  | 0x06 => some s.valveObject
  | 0x07 => some s.regimeObject
  | 0x08 => (tempOfNat index).map s.channelObject
  | 0x09 => (loopOfNat index).map s.flowObject
  | 0x0A => (pwmOfByte (BitVec.ofNat 8 index)).map s.outputObject
  | 0x0B => some s.setupObject
  | 0x0C => some s.resetObject
  | 0x0D => some (s.noticesObject p)
  | _ => none

/-- The part of an object that data byte 0 of a READ selects: bit 7 the part, bits 0 to 6 the index (R175). -/
def State.readPart (s : State) (p : Port) (cls index : Byte) : Option (List Byte) :=
  match s.object p cls.toNat (index.toNat % 128) with
  | none => none
  | some bytes =>
    if index.toNat < 128 then some (bytes.take 9)
    else if bytes.length ≤ 9 then none
    else some (bytes.drop 9)

end Sys2Proof.Machine
end

