-- ==== Sys2Proof/Machine/Link.lean ====
section
/-!
DEFINITION. The Link Ports: what every frame does (R162 to R166), the commands a port answers itself (R168 to R170), and the link
timer (R171).
-/

namespace Sys2Proof.Machine

/-! ## Every frame -/

/-- The twelve bytes of a reply; the last is the CRC of the others (R165). -/
def Reply.bytes (r : Reply) : List Byte :=
  let body := r.status.code :: r.echo :: r.data.toList
  body ++ [crc8 body]

/-- What SDO carries over a number of SCK cycles: the reply's bytes, most significant bit first, then zeros (R164). -/
def Reply.shifted (r : Reply) (clocks : Nat) : List Bool :=
  (r.bytes.flatMap byteBits ++ List.replicate (clocks - 96) false).take clocks

/-- At its completion a frame has carried out the staged reply (R164). -/
def State.shiftOut (s : State) (p : Port) (clocks : Nat) : State :=
  s.setPort p { s.port p with sent := (s.port p).staged.shifted clocks }

/-- Stage a reply on a port (R164). -/
def State.stage (s : State) (p : Port) (r : Reply) : State := s.setPort p { s.port p with staged := r }

/-- Ports M and B have a vote that presence bears on (R72). -/
def hasVote : Port → Bool
  | .M => true
  | .B => true
  | .C => false

/-- A change of presence starts a resolution for ports M and B in RUN (R72, R73). -/
def State.presenceChanged (s : State) (p : Port) : State := if hasVote p then s.resolveInRun else s

/-- A good frame restarts the link timer with LINK_TIMEOUT, and an ABSENT port becomes PRESENT (R163, R171). -/
def State.restartLink (s : State) (p : Port) : State :=
  let t := s.setPort p
    { s.port p with linkTimer := some (seconds (s.num .linkTimeout)), presence := .present }
  if (s.port p).presence = .absent then t.presenceChanged p else t

/-- What a good frame does before its command: the staged reply goes out, DORMANT ends, the link timer restarts (R163). -/
def State.frameArrives (s : State) (p : Port) (extra : Nat) : State :=
  ((s.shiftOut p (96 + extra)).wake).restartLink p

/-- A command's answer: the state it leaves, its status and its data. -/
structure Answer where
  state : State
  status : Status
  data : List Byte

/-- A good frame: what comes before the command, the command, and its reply staged (R163). -/
def goodFrame (p : Port) (extra : Nat) (echo : Byte) (command : State → Answer) (s : State) : State :=
  let a := command (s.frameArrives p extra)
  a.state.stage p { status := a.status, echo := echo, data := packData a.data }

/-- A frame that executes nothing: the staged reply goes out and another is staged (R163). -/
def deadFrame (p : Port) (clocks : Nat) (status : Status) (echo : Byte) (s : State) : State :=
  (s.shiftOut p clocks).stage p { status := status, echo := echo, data := packData [] }

/-! ## The port's own commands -/

/-- A command that changes nothing and answers the port's NOTICES object: NOP (R170). -/
def nopCommand (p : Port) (s : State) : Answer := ⟨s, .ok, s.noticesObject p⟩

/-- ACK: the flags the set names are cleared on this port (R169). -/
def ackCommand (p : Port) (set : Word) (s : State) : Answer :=
  let t := s.setPort p ((s.port p).withFlags ((s.port p).flags &&& ~~~(noticeSetOf set)))
  ⟨t, .ok, t.noticesObject p⟩

/-- ENABLE: the enables become the set, and LOST's stays set (R170). -/
def enableCommand (p : Port) (set : Word) (s : State) : Answer :=
  let t := s.setPort p ((s.port p).withEnables (noticeSetOf set ||| Notice.lost.mask))
  ⟨t, .ok, t.noticesObject p⟩

/-- An unknown command code: UNKNOWN with data zero (R165). -/
def unknownCommand (s : State) : Answer := ⟨s, .unknown, []⟩

/-- A port's link timer runs out: ABSENT, LOST set, and a resolution for ports M and B in RUN (R72, R171). A timer that a good frame
has restarted, or that is stopped, does not expire (R169, log 2). -/
def expireLink (s : State) (p : Port) : State :=
  if ranOut (s.port p).linkTimer then
    ((s.setPort p { s.port p with linkTimer := none, presence := .absent }).notify .lost p).presenceChanged p
  else s

/-- NOP. -/
def execNop (p : Port) (extra : Nat) (s : State) : Host.Outcome State Fault Refusal :=
  .next (goodFrame p extra 0x01#8 (nopCommand p) s)

/-- ACK. -/
def execAck (p : Port) (extra : Nat) (set : Word) (s : State) : Host.Outcome State Fault Refusal :=
  .next (goodFrame p extra 0x0F#8 (ackCommand p set) s)

/-- ENABLE. -/
def execEnable (p : Port) (extra : Nat) (set : Word) (s : State) : Host.Outcome State Fault Refusal :=
  .next (goodFrame p extra 0x10#8 (enableCommand p set) s)

/-- UNKNOWN: the echo is the code received (R165). -/
def execUnknown (p : Port) (extra : Nat) (code : Byte) (s : State) : Host.Outcome State Fault Refusal :=
  .next (goodFrame p extra code unknownCommand s)

/-- SHORT_FRAME: echo $00 (R165). -/
def execShortFrame (p : Port) (clocks : Fin 96) (s : State) : Host.Outcome State Fault Refusal :=
  .next (deadFrame p clocks.val .shortFrame 0#8 s)

/-- BAD_CRC: the echo is byte 0 of the frame as received (R165). -/
def execBadCrc (p : Port) (extra : Nat) (frame : Vector Byte 12) (s : State) : Host.Outcome State Fault Refusal :=
  .next (deadFrame p (96 + extra) .badCrc (frame.get 0) s)

/-- LINK_TIMER_EXPIRY. -/
def execLinkTimerExpiry (p : Port) (s : State) : Host.Outcome State Fault Refusal := .next (expireLink s p)

end Sys2Proof.Machine
end

