-- ==== Sys2Proof/Machine/DemandTable.lean ====
section
/-!
DEFINITION. The Demand Table's commands: POST, RENEW, DROP (R5 to R12), the lease expiry (R14), and ALLOW (R44), VOTE (R71),
which go to the Allocator and the Regime Controller.
-/

namespace Sys2Proof.Machine

/-- A number brought into lo to hi (R7, R44, R145, R152). -/
def clampNat (lo hi n : Nat) : Nat := max lo (min hi n)

/-- The sense rule: no standing posted slot of the port's zone, other than the slot named, has the other sense (R6). -/
def State.senseRule (s : State) (z : Zone) (k : Fin 4) (x : Sense) : Bool :=
  ([0, 1, 2, 3] : List (Fin 4)).all (fun j =>
    j == k || !(s.demand (postedIx z j)).stands || (s.demand (postedIx z j)).sense == x)

/-- The demand a taken POST writes, its numbers brought into range (R7, R8, R9). -/
def postedDemand (x : Sense) (t : Tier) (weight : Byte) (asked : Word) (lease : Byte) : Demand :=
  { state := .waiting
    sense := x
    tier := t
    weight := clampNat 1 15 weight.toNat
    asked := clampNat 0 480 asked.toNat
    granted := 0
    leaseLength := clampNat 1 60 lease.toNat
    lease := some (seconds (clampNat 1 60 lease.toNat))
    starveCount := 0
    starveMark := false }

/-- A taken POST changed an argument (R7). -/
def postClamped (weight : Byte) (asked : Word) (lease : Byte) : Bool :=
  clampNat 1 15 weight.toNat != weight.toNat || clampNat 0 480 asked.toNat != asked.toNat ||
    clampNat 1 60 lease.toNat != lease.toNat

/-- The record a POST's reply carries: the named slot's, or zeros for a slot number above 3 (R10). -/
def State.postRecord (s : State) (z : Zone) (slot : Byte) : List Byte :=
  match slotOfByte slot with
  | some k => (s.demand (postedIx z k)).record
  | none => []

/-- A refused POST leaves the table as it is (R5, R10). -/
def State.refusePost (s : State) (p : Port) (slot : Byte) (status : Status) : Answer :=
  ⟨s, status, s.postRecord (portZone p) slot⟩

/-- A POST that has passed checks 1 to 7: the sense rule, and then it is taken. A replacement keeps its age-list place if its tier
equals the tier it replaces (R5 check 8, R8, R9). -/
def State.takePost (s : State) (p : Port) (k : Fin 4) (x : Sense) (t : Tier) (weight : Byte) (asked : Word)
    (lease : Byte) : Answer :=
  let i := postedIx (portZone p) k
  if s.senseRule (portZone p) k x then
    let u := s.writeDemand i (postedDemand x t weight asked lease) ((s.demand i).tier == t)
    ⟨u, if postClamped weight asked lease then .clamped else .ok, (u.demand i).record⟩
  else ⟨s, .senseConflict, (s.demand i).record⟩

/-- POST: the checks of R5 in their order. -/
def postCommand (p : Port) (slot sense tier weight : Byte) (asked : Word) (lease : Byte) (s : State) : Answer :=
  if s.running = false then s.refusePost p slot .notRunning
  else if (s.port p).flag .lost then s.refusePost p slot .lostUnacked
  else
    match slotOfByte slot, senseOfByte sense, tierOfByte tier with
    | some k, some x, some t =>
      if p = .M ∧ x ≠ .cool then s.refusePost p slot .badArg
      else if p ≠ .B ∧ t = .charge then s.refusePost p slot .badArg
      else if asked = 0#16 then s.refusePost p slot .badArg
      else s.takePost p k x t weight asked lease
    | _, _, _ => s.refusePost p slot .badArg

/-- The named slots that stand, and those that are FREE (R11, R12). -/
def State.standingOf (s : State) (z : Zone) (ks : List (Fin 4)) : List (Fin 4) :=
  ks.filter (fun k => (s.demand (postedIx z k)).stands)

def State.freeOf (s : State) (z : Zone) (ks : List (Fin 4)) : List (Fin 4) :=
  ks.filter (fun k => !(s.demand (postedIx z k)).stands)

/-- A set that names slot G or a number above 3 (R11, R167). -/
def namesBeyond (slots : Byte) : Bool := decide (16 ≤ slots.toNat)

/-- Restart one lease at the demand's own lease length (R11). -/
def State.renewSlot (s : State) (i : Fin 15) : State :=
  s.setDemand i { s.demand i with lease := some (seconds (s.demand i).leaseLength) }

/-- The reply of RENEW and DROP: the slots acted on, the named slots found FREE, and NO_DEMAND if there was one (R11, R12). -/
def slotAnswer (s : State) (done free : List (Fin 4)) : Answer :=
  ⟨s, if free.isEmpty then .ok else .noDemand, [slotSetByte done, slotSetByte free]⟩

/-- RENEW (R11). -/
def renewCommand (p : Port) (slots : Byte) (s : State) : Answer :=
  if s.running = false then ⟨s, .notRunning, []⟩
  else if namesBeyond slots then ⟨s, .badArg, []⟩
  else
    let z := portZone p
    let done := s.standingOf z (namedSlots slots)
    slotAnswer (done.foldl (fun t k => t.renewSlot (postedIx z k)) s) done (s.freeOf z (namedSlots slots))

/-- DROP (R12). -/
def dropCommand (p : Port) (slots : Byte) (s : State) : Answer :=
  if s.running = false then ⟨s, .notRunning, []⟩
  else if namesBeyond slots then ⟨s, .badArg, []⟩
  else
    let z := portZone p
    let done := s.standingOf z (namedSlots slots)
    slotAnswer (done.foldl (fun t k => t.freeSlot (postedIx z k)) s) done (s.freeOf z (namedSlots slots))

/-- A posted demand's lease runs out: FREE, and EXPIRED on the slot's port (R14). A lease that a RENEW or a POST has restarted does
not expire, nor does one that has stopped (R14, log 2). -/
def expireLease (s : State) (z : Zone) (k : Fin 4) : State :=
  if ranOut (s.demand (postedIx z k)).lease then (s.freeSlot (postedIx z k)).notify .expired (zonePort z) else s

/-- The reply of an ALLOW: value and lease as taken, 0 where none was, and the allowance in force with its source and its lease
remaining, which every ALLOW reply reports (R44, R51, log 15). -/
def State.allowData (s : State) (value lease : Nat) : List Byte :=
  u16 value ++ u8 lease ++ u16 s.allowanceValue ++ u8 s.alloc.inForce.source.code ++ u8 (ceilSeconds s.alloc.allowLease)

/-- ALLOW (R44, R51). -/
def allowCommand (p : Port) (value : Word) (lease : Byte) (s : State) : Answer :=
  if s.running = false then ⟨s, .notRunning, s.allowData 0 0⟩
  else if p ≠ .B then ⟨s, .badArg, s.allowData 0 0⟩
  else
    let v := clampNat 0 1600 value.toNat
    let l := clampNat 1 60 lease.toNat
    let t := { s with alloc := { s.alloc with pendingAllow := some (v, l) } }
    ⟨t, if v = value.toNat ∧ l = lease.toNat then .ok else .clamped, t.allowData v l⟩

/-- A taken vote of port M: recorded, and a resolution in RUN if it changed (R71). -/
def State.takeVoteM (s : State) (v : VoteM) : State :=
  let t := { s with regime := { s.regime with voteM := v } }
  if s.regime.voteM = v then t else t.resolveInRun

/-- A taken vote of port B: recorded, and a resolution in RUN if it changed (R71). -/
def State.takeVoteB (s : State) (v : VoteB) : State :=
  let t := { s with regime := { s.regime with voteB := v } }
  if s.regime.voteB = v then t else t.resolveInRun

/-- VOTE: codes 0 and 1 of ports M and B are taken, everything else is refused; the reply carries the REGIME object (R71, R167). -/
def voteCommand (p : Port) (v : Byte) (s : State) : Answer :=
  let taken : Option State :=
    match p with
    | .M =>
      if v = 0#8 then some (s.takeVoteM .park) else if v = 1#8 then some (s.takeVoteM .drive) else none
    | .B =>
      if v = 0#8 then some (s.takeVoteB .noCharge) else if v = 1#8 then some (s.takeVoteB .charge) else none
    | .C => none
  match taken with
  | some t => ⟨t, .ok, t.regimeObject⟩
  | none => ⟨s, .badArg, s.regimeObject⟩

/-- POST. -/
def execPost (p : Port) (extra : Nat) (slot sense tier weight : Byte) (asked : Word) (lease : Byte) (s : State) :
    Host.Outcome State Fault Refusal :=
  .next (goodFrame p extra 0x02#8 (postCommand p slot sense tier weight asked lease) s)

/-- RENEW. -/
def execRenew (p : Port) (extra : Nat) (slots : Byte) (s : State) : Host.Outcome State Fault Refusal :=
  .next (goodFrame p extra 0x03#8 (renewCommand p slots) s)

/-- DROP. -/
def execDrop (p : Port) (extra : Nat) (slots : Byte) (s : State) : Host.Outcome State Fault Refusal :=
  .next (goodFrame p extra 0x04#8 (dropCommand p slots) s)

/-- ALLOW. -/
def execAllow (p : Port) (extra : Nat) (value : Word) (lease : Byte) (s : State) :
    Host.Outcome State Fault Refusal :=
  .next (goodFrame p extra 0x05#8 (allowCommand p value lease) s)

/-- VOTE. -/
def execVote (p : Port) (extra : Nat) (v : Byte) (s : State) : Host.Outcome State Fault Refusal :=
  .next (goodFrame p extra 0x06#8 (voteCommand p v) s)

/-- LEASE_EXPIRY. -/
def execLeaseExpiry (z : Zone) (k : Fin 4) (s : State) : Host.Outcome State Fault Refusal := .next (expireLease s z k)

end Sys2Proof.Machine
end

