-- ==== Sys2Proof/Machine/Store.lean ====
section
/-!
DEFINITION. The Parameter Store: SETP, GETP, the start vote, validation and RUN entry (R149 to R161).
-/

namespace Sys2Proof.Machine

/-! ## Judging and storing a value -/

/-- A value as a taken SETP stores it, and whether it was brought into range (R152). -/
structure Judged where
  value : Int
  second : Int
  clamped : Bool
deriving DecidableEq, Repr

/-- A number brought into a range (R152). -/
def clampInt (lo hi v : Int) : Int := max lo (min hi v)

/-- A number and whether the range changed it. -/
def judgeNumber (lo hi v : Int) : Judged := { value := clampInt lo hi v, second := 0, clamped := clampInt lo hi v != v }

/-- A pair, each half in its own range (R152). -/
def judgePair (hi1 lo2 hi2 v1 v2 : Int) : Judged :=
  { value := clampInt 0 hi1 v1
    second := clampInt lo2 hi2 v2
    clamped := clampInt 0 hi1 v1 != v1 || clampInt lo2 hi2 v2 != v2 }

/-- The value of a SETP by the kind of its parameter; none where it is refused (R152). An enumerated number is sent as the number
itself, of which R152 gives CYCLE_RUN 300 as one that is refused (log 12). -/
def Domain.judge (d : Domain) (first second : Word) : Option Judged :=
  match d with
  | .num lo hi => some (judgeNumber lo hi first.toNat)
  | .temp lo hi => some (judgeNumber lo hi first.toInt)
  | .convPair => some (judgePair 4095 (-400) 1500 first.toNat second.toInt)
  | .mapPair => some (judgePair 2400 0 1000 first.toNat second.toNat)
  | .oneOf vals =>
    if vals.contains first.toNat then some { value := first.toNat, second := 0, clamped := false } else none
  | .condSet => if first.toNat < 32 then some { value := first.toNat, second := 0, clamped := false } else none
  | .condExpect => some { value := (first.toNat % 32 : Nat), second := 0, clamped := false }

/-- COMP_MIN is kept at or below a written COMP_MAX, after its range (R153). -/
def State.judgeWrite (s : State) (q : Param) (first second : Word) : Option Judged :=
  match q.row.domain.judge first second with
  | none => none
  | some j =>
    if q = .compMin ∧ (s.param .compMax).written = true ∧ s.int .compMax < j.value then
      some { j with value := s.int .compMax, clamped := true }
    else some j

/-- A taken write: value, written mark, writer (R150, R154). -/
def State.storeParam (s : State) (p : Port) (q : Param) (value second : Int) : State :=
  s.setParam q { value := value, second := second, written := true, writer := some p }

/-- COMP_MIN lowered to a new COMP_MAX below it, as a taken write by the same port (R153). -/
def State.lowerCompMin (s : State) (p : Port) (q : Param) : State :=
  if q = .compMax ∧ s.int .compMax < s.int .compMin then s.storeParam p .compMin (s.int .compMax) 0 else s

/-- A taken write in SETUP clears the start votes, with SETUP on all ports if one stood (R157). -/
def State.clearVotes (s : State) : State :=
  let t := { s with setup := { s.setup with votes := Vector.replicate 3 false } }
  if s.startVote .M || s.startVote .B || s.startVote .C then t.notifyAll .setup else t

/-- A conversion point (R90). -/
def Param.isConvPt : Param → Bool
  | .convPt _ => true
  | _ => false

/-- The loop whose AVG a parameter is (R107). -/
def Param.avgLoop : Param → Option Loop
  | .avg l => some l
  | _ => none

/-- The zone whose guard a parameter sets up (R130). -/
def Param.guardZone : Param → Option Zone
  | .guardSelect z => some z
  | .guardExpect z => some z
  | .guardAction z => some z
  | _ => none

/-- What a write in SETUP reaches at once: channels to INIT, an average cleared, the votes cleared (R90, R107, R157). -/
def State.writeInSetup (s : State) (q : Param) : State :=
  let a := if q.isConvPt then s.channelsToInit else s
  let b := match q.avgLoop with
    | some l => a.clearAverage l
    | none => a
  b.clearVotes

/-- What a write in RUN reaches at once: a guard (R130). `old` gives the guard's action before the write. -/
def State.writeInRun (s : State) (q : Param) (old : Zone → GuardAction) : State :=
  match q.guardZone with
  | some z => s.guardWritten z (old z)
  | none => s

/-- A taken write with all that it reaches (R153, R154). -/
def State.takeWrite (s : State) (p : Port) (q : Param) (j : Judged) : State :=
  let t := (s.storeParam p q j.value j.second).lowerCompMin p q
  if s.running then t.writeInRun q s.guardAction else t.writeInSetup q

/-- A SETP of a known parameter: checks 2 to 4 of R151, then the write. -/
def State.setKnown (s : State) (p : Port) (q : Param) (first second : Word) : Answer :=
  if q.owner.isSome = true ∧ q.owner ≠ some (portZone p) then ⟨s, .notYours, s.paramObject q⟩
  else if s.running = true ∧ q.row.live = false then ⟨s, .locked, s.paramObject q⟩
  else
    match s.judgeWrite q first second with
    | none => ⟨s, .badArg, s.paramObject q⟩
    | some j =>
      let t := s.takeWrite p q j
      ⟨t, if j.clamped then .clamped else .ok, t.paramObject q⟩

/-- SETP (R151 to R154): an unknown id is refused with data zero. -/
def setpCommand (p : Port) (id : Byte) (first second : Word) (s : State) : Answer :=
  match Param.ofId id.toNat with
  | none => ⟨s, .badArg, []⟩
  | some q => s.setKnown p q first second

/-- GETP (R155). -/
def getpCommand (id : Byte) (s : State) : Answer :=
  match Param.ofId id.toNat with
  | none => ⟨s, .badArg, []⟩
  | some q => ⟨s, .ok, s.paramObject q⟩

/-! ## Validation -/

/-- The first point, counted from j, whose x is not above the one before it (R158). -/
def firstXBreak (j : Nat) : List Int → Option Nat
  | a :: b :: rest => if a < b then firstXBreak (j + 1) (b :: rest) else some (j + 1)
  | [_] => none
  | [] => none

/-- A temperature continues the direction that points 0 and 1 set (R158). -/
def continues (up : Bool) (a b : Int) : Bool := if up then decide (a < b) else decide (b < a)

/-- The first conversion point, counted from j, that breaks the order: its code not above the one before it, or its temperature
not in the direction set (R158). -/
def firstConvBreak (up : Bool) (j : Nat) : List (Int × Int) → Option Nat
  | a :: b :: rest =>
    if a.1 < b.1 ∧ continues up a.2 b.2 = true then firstConvBreak up (j + 1) (b :: rest) else some (j + 1)
  | [_] => none
  | [] => none

/-- The conversion point that breaks the order, if one does (R158). -/
def State.convBreak (s : State) : Option Nat :=
  firstConvBreak (decide ((s.param (.convPt 0)).second < (s.param (.convPt 1)).second)) 0 s.convPoints

/-- The point of a map that breaks the order, if one does (R158). -/
def State.mapBreak (s : State) (point : Fin 4 → Param) : Option Nat :=
  firstXBreak 0 (([0, 1, 2, 3] : List (Fin 4)).map (fun i => (s.param (point i)).value))

/-- All points of a map are written. -/
def State.mapWritten (s : State) (point : Fin 4 → Param) : Bool :=
  ([0, 1, 2, 3] : List (Fin 4)).all (fun i => (s.param (point i)).written)

/-- All eight conversion points are written. -/
def State.convWritten (s : State) : Bool :=
  ([0, 1, 2, 3, 4, 5, 6, 7] : List (Fin 8)).all (fun i => (s.param (.convPt i)).written)

/-- The map order check at one point: not made while a point of the map is unwritten (R158). -/
def State.mapFails (s : State) (point : Fin 4 → Param) (i : Fin 4) : Bool :=
  s.mapWritten point && s.mapBreak point == some i.val

/-- The relation a parameter's id reports, failed (R158): the bands of a zone at its HIGH, the conversion order at a point, the
order of a map at a point, the compressor temperatures at TR_DERATE. -/
def State.relationFailure (s : State) (q : Param) : Option FaultReason :=
  match q with
  | .high z =>
    if (s.param (.high z)).written = true ∧ (s.param (.low z)).written = true ∧
        s.int (.high z) ≤ s.int (.low z) + 2 * s.int (.hyst z) then some .zoneBands
    else none
  | .convPt i => if s.convWritten && s.convBreak == some i.val then some .convOrder else none
  | .compMap i => if s.mapFails .compMap i then some .mapOrder else none
  | .fanMap i => if s.mapFails .fanMap i then some .mapOrder else none
  | .pumpMap l i => if s.mapFails (.pumpMap l) i then some .mapOrder else none
  | .trDerate => if s.int .trCutoff ≤ s.int .trDerate then some .compTemps else none
  | _ => none

/-- Why a parameter's id fails validation, if it does (R158). -/
def State.failure (s : State) (q : Param) : Option FaultReason :=
  if q.required = true ∧ (s.param q).written = false then some .unwritten else s.relationFailure q

/-- The lowest failing id with its reason; none when validation passes (R158). -/
def State.lowestFailure (s : State) : Option (Nat × FaultReason) :=
  allParams.findSome? (fun q => (s.failure q).map (fun r => (q.id, r)))

/-- RUN entry (R159): the neighbours act in the order Regime Controller, Allocator, guards, Actuator Drive. R126 and R159 give no
order among the three guards: MOTOR, BATTERY, CABIN is the model's choice, and it is the order in which G demands that trip
here join the age list (log 24, DESIGN CHOICE). -/
def State.enterRun (s : State) : State :=
  let a := { s with setup := { s.setup with state := .run, reason := .noFault, faultId := 0 } }
  let b := a.regimeRunEntry.allocatorRunEntry
  let c := ((b.armGuard .motor).armGuard .battery).armGuard .cabin
  c.clearForces.notifyAll .setup

/-- A failed validation: the fault record, the votes cleared, SETUP on all ports (R160). -/
def State.failValidation (s : State) (id : Nat) (r : FaultReason) : State :=
  { s with setup := { s.setup with votes := Vector.replicate 3 false, reason := r, faultId := id } }.notifyAll .setup

/-- Validation at the START that completes the set (R158, R159, R160). -/
def State.validate (s : State) : State :=
  match s.lowestFailure with
  | none => s.enterRun
  | some (id, r) => s.failValidation id r

/-- Record or withdraw a port's start vote. -/
def State.setVote (s : State) (p : Port) (v : Bool) : State :=
  { s with setup := { s.setup with votes := put s.setup.votes (portIx p) v } }

/-- A START in SETUP from a port whose vote does not stand: the vote, and validation if it is the third (R156). -/
def State.addVote (s : State) (p : Port) : State :=
  let t := s.setVote p true
  if t.startVote .M && t.startVote .B && t.startVote .C then t.validate else t

/-- START (R156). -/
def startCommand (p : Port) (s : State) : Answer :=
  let t := if s.running = true ∨ s.startVote p = true then s else s.addVote p
  ⟨t, .ok, t.setupObject⟩

/-- UNSTART (R156). -/
def unstartCommand (p : Port) (s : State) : Answer :=
  let t := if s.running then s else s.setVote p false
  ⟨t, .ok, t.setupObject⟩

/-- SETP. -/
def execSetp (p : Port) (extra : Nat) (id : Byte) (first second : Word) (s : State) :
    Host.Outcome State Fault Refusal :=
  .next (goodFrame p extra 0x07#8 (setpCommand p id first second) s)

/-- GETP. -/
def execGetp (p : Port) (extra : Nat) (id : Byte) (s : State) : Host.Outcome State Fault Refusal :=
  .next (goodFrame p extra 0x08#8 (getpCommand id) s)

/-- START. -/
def execStart (p : Port) (extra : Nat) (s : State) : Host.Outcome State Fault Refusal :=
  .next (goodFrame p extra 0x09#8 (startCommand p) s)

/-- UNSTART. -/
def execUnstart (p : Port) (extra : Nat) (s : State) : Host.Outcome State Fault Refusal :=
  .next (goodFrame p extra 0x0A#8 (unstartCommand p) s)

end Sys2Proof.Machine
end

