-- ==== Sys2Proof/Machine/Readback.lean ====
section
/-!
DEFINITION. READ and NEXT (R174 to R177), and the two commands whose owners stand in earlier files and whose replies need the
ports: CLEARVALVE (R68) and FORCE (R145, R146).
-/

namespace Sys2Proof.Machine

/-- READ (R174, R175). -/
def readCommand (p : Port) (cls index : Byte) (s : State) : Answer :=
  match s.readPart p cls index with
  | some bytes => ⟨s, .ok, bytes⟩
  | none => ⟨s, .badArg, []⟩

/-- The ordinal of the oldest record the ring holds (R176). -/
def Ring.oldest (r : Ring) : Nat := r.appended + 1 - r.records.length

/-- The record of an ordinal, if the ring holds it (R176). -/
def Ring.at (r : Ring) (ordinal : Nat) : Option Snapshot :=
  if ordinal < r.oldest then none else r.records[ordinal - r.oldest]?

/-- NEXT: the record at the port's cursor, EMPTY at the empty end, OVERRUN if the mark is set (R177). -/
def nextCommand (p : Port) (s : State) : Answer :=
  match s.ring.at (s.port p).cursor with
  | none => ⟨s, .empty, []⟩
  | some x =>
    ⟨s.setPort p { s.port p with cursor := (s.port p).cursor + 1, overrun := false },
      if (s.port p).overrun then .overrun else .ok, x.bytes⟩

/-- CLEARVALVE: taken in LOCKED alone; the reply carries the VALVE object (R68). -/
def clearvalveCommand (s : State) : Answer :=
  if s.valve.state = .locked then ⟨s.clearValve, .ok, s.clearValve.valveObject⟩
  else ⟨s, .notNow, s.valveObject⟩

/-- The OUTPUT object of the channel a FORCE names, or zeros for a number above 5 (R146). -/
def State.forceData (s : State) (ch : Byte) : List Byte :=
  match pwmOfByte ch with
  | some c => s.outputObject c
  | none => []

/-- What FORCE in both forms shares: SETUP_ONLY in RUN, BAD_ARG for a channel above 5, otherwise the channel is changed (R145,
R146). -/
def forceChannel (ch : Byte) (status : Status) (f : PwmChannel → PwmChannel) (s : State) : Answer :=
  if s.running then ⟨s, .setupOnly, s.forceData ch⟩
  else
    match pwmOfByte ch with
    | none => ⟨s, .badArg, []⟩
    | some c => ⟨s.setOut c (f (s.out c)), status, (s.setOut c (f (s.out c))).outputObject c⟩

/-- FORCE with a duty, clamped to 1000 (R145). -/
def forceCommand (ch : Byte) (duty : Word) (s : State) : Answer :=
  forceChannel ch (if duty.toNat ≤ 1000 then .ok else .clamped) (fun c => c.forced (min 1000 duty.toNat)) s

/-- FORCE with the release option (R146). -/
def forceReleaseCommand (ch : Byte) (s : State) : Answer := forceChannel ch .ok PwmChannel.released s

/-- READ. -/
def execRead (p : Port) (extra : Nat) (cls index : Byte) (s : State) : Host.Outcome State Fault Refusal :=
  .next (goodFrame p extra 0x0D#8 (readCommand p cls index) s)

/-- NEXT. -/
def execNext (p : Port) (extra : Nat) (s : State) : Host.Outcome State Fault Refusal :=
  .next (goodFrame p extra 0x0E#8 (nextCommand p) s)

/-- CLEARVALVE. -/
def execClearvalve (p : Port) (extra : Nat) (s : State) : Host.Outcome State Fault Refusal :=
  .next (goodFrame p extra 0x0C#8 clearvalveCommand s)

/-- FORCE with a duty. -/
def execForce (p : Port) (extra : Nat) (ch : Byte) (duty : Word) (s : State) : Host.Outcome State Fault Refusal :=
  .next (goodFrame p extra 0x0B#8 (forceCommand ch duty) s)

/-- FORCE with the release option. -/
def execForceRelease (p : Port) (extra : Nat) (ch : Byte) (s : State) : Host.Outcome State Fault Refusal :=
  .next (goodFrame p extra 0x0B#8 (forceReleaseCommand ch) s)

end Sys2Proof.Machine
end

