-- ==== Sys2Proof/Machine/Reset.lean ====
section
/-!
DEFINITION. The three resets and the reset record (R172, R173, R69).
-/

namespace Sys2Proof.Machine

/-- The part at the end of a reset: every block at its reset state, the reset record as given, the inputs at the levels they have,
a frame in progress ignored (R162), the waiting commands kept; with VALVE_AT asserted, the arrival of R69 is taken at once (R69,
R172). -/
def State.resetWith (s : State) (r : ResetRecord) : State :=
  (State.afterReset r s.hvReady s.valveAt #v[(s.port .M).selected, (s.port .B).selected, (s.port .C).selected] s.pending
    s.timeBase).arriveAtEntry

/-- One more reset since power-on, staying at 255 (R173). -/
def ResetRecord.raised (r : ResetRecord) (cause : ResetCause) : ResetRecord :=
  { cause := cause, count := min 255 (r.count + 1) }

/-- POWER_ON_RESET: cause POWER_ON, count 0 (R173). -/
def execPowerOnReset (s : State) : Host.Outcome State Fault Refusal :=
  .next (s.resetWith { cause := .powerOn, count := 0 })

/-- RESET_LINE_RESET (R173). -/
def execResetLineReset (s : State) : Host.Outcome State Fault Refusal :=
  .next (s.resetWith (s.resetRecord.raised .resetLine))

/-- SUPPLY_DIP_RESET (R173). -/
def execSupplyDipReset (s : State) : Host.Outcome State Fault Refusal :=
  .next (s.resetWith (s.resetRecord.raised .supplyDip))

end Sys2Proof.Machine
end

