-- ==== Sys2Proof/Machine/Dispatch.lean ====
section
/-!
DEFINITION. The dispatch: one arm for each command, each one call of its meaning.
-/

namespace Sys2Proof.Machine

def exec (i : Instr) (s : State) : Host.Outcome State Fault Refusal :=
  match i with
  | .nop p extra => Sys2Proof.Machine.execNop p extra s
  | .post p extra slot sense tier weight asked lease => Sys2Proof.Machine.execPost p extra slot sense tier weight asked lease s
  | .renew p extra slots => Sys2Proof.Machine.execRenew p extra slots s
  | .drop p extra slots => Sys2Proof.Machine.execDrop p extra slots s
  | .allow p extra value lease => Sys2Proof.Machine.execAllow p extra value lease s
  | .vote p extra v => Sys2Proof.Machine.execVote p extra v s
  | .setp p extra id first second => Sys2Proof.Machine.execSetp p extra id first second s
  | .getp p extra id => Sys2Proof.Machine.execGetp p extra id s
  | .start p extra => Sys2Proof.Machine.execStart p extra s
  | .unstart p extra => Sys2Proof.Machine.execUnstart p extra s
  | .force p extra ch duty => Sys2Proof.Machine.execForce p extra ch duty s
  | .forceRelease p extra ch => Sys2Proof.Machine.execForceRelease p extra ch s
  | .clearvalve p extra => Sys2Proof.Machine.execClearvalve p extra s
  | .read p extra cls index => Sys2Proof.Machine.execRead p extra cls index s
  | .next p extra => Sys2Proof.Machine.execNext p extra s
  | .ack p extra set => Sys2Proof.Machine.execAck p extra set s
  | .enable p extra set => Sys2Proof.Machine.execEnable p extra set s
  | .unknown p extra code => Sys2Proof.Machine.execUnknown p extra code s
  | .shortFrame p clocks => Sys2Proof.Machine.execShortFrame p clocks s
  | .badCrc p extra frame => Sys2Proof.Machine.execBadCrc p extra frame s
  | .powerOnReset => Sys2Proof.Machine.execPowerOnReset s
  | .resetLineReset => Sys2Proof.Machine.execResetLineReset s
  | .supplyDipReset => Sys2Proof.Machine.execSupplyDipReset s
  | .leaseExpiry z slot => Sys2Proof.Machine.execLeaseExpiry z slot s
  | .cycleExpiry => Sys2Proof.Machine.execCycleExpiry s
  | .allowanceLeaseExpiry => Sys2Proof.Machine.execAllowanceLeaseExpiry s
  | .dwellExpiry => Sys2Proof.Machine.execDwellExpiry s
  | .travelTimeout => Sys2Proof.Machine.execTravelTimeout s
  | .retryAttempt => Sys2Proof.Machine.execRetryAttempt s
  | .valveAtAsserted => Sys2Proof.Machine.execValveAtAsserted s
  | .valveAtDeasserted => Sys2Proof.Machine.execValveAtDeasserted s
  | .hvReadyRise => Sys2Proof.Machine.execHvReadyRise s
  | .hvReadyFall => Sys2Proof.Machine.execHvReadyFall s
  | .primeTimerExpiry => Sys2Proof.Machine.execPrimeTimerExpiry s
  | .dormantTimerExpiry => Sys2Proof.Machine.execDormantTimerExpiry s
  | .linkTimerExpiry p => Sys2Proof.Machine.execLinkTimerExpiry p s
  | .conversion ch code => Sys2Proof.Machine.execConversion ch code s
  | .holdExpiry ch => Sys2Proof.Machine.execHoldExpiry ch s
  | .flowEdge l label => Sys2Proof.Machine.execFlowEdge l label s
  | .stallExpiry l => Sys2Proof.Machine.execStallExpiry l s
  | .periodBoundary ch => Sys2Proof.Machine.execPeriodBoundary ch s

end Sys2Proof.Machine
end

