-- ==== Sys2Proof/Decode.lean ====
section
/-!
DEFINITION. From the bytes of a frame to the command it is (R162, R163, R165, R167), and back for a well-formed command; and
`decodeTableWord`, over the rows of spec/opcode_table.json that give bits: none does.
-/

namespace Sys2Proof

open Machine

/-- Twelve bytes from a list, filled with $00. -/
def twelve (l : List Byte) : Vector Byte 12 := ⟨⟨(l ++ List.replicate 12 0#8).take 12⟩, by simp⟩

/-- The command of a good frame's twelve bytes: byte 0 the code, byte 1 ARG, bytes 2 to 10 the data (R166, R167). Data bytes a
command does not use are not examined. -/
def goodCommand (p : Port) (extra : Nat) (f : Vector Byte 12) : Instr :=
  let arg := f.get 1
  match (f.get 0).toNat with
  | 0x01 => .nop p extra
  | 0x02 => .post p extra arg (f.get 2) (f.get 3) (f.get 4) (mkWord (f.get 5) (f.get 6)) (f.get 7)
  | 0x03 => .renew p extra arg
  | 0x04 => .drop p extra arg
  | 0x05 => .allow p extra (mkWord (f.get 2) (f.get 3)) (f.get 4)
  | 0x06 => .vote p extra arg
  | 0x07 => .setp p extra arg (mkWord (f.get 2) (f.get 3)) (mkWord (f.get 4) (f.get 5))
  | 0x08 => .getp p extra arg
  | 0x09 => .start p extra
  | 0x0A => .unstart p extra
  | 0x0B =>
    if f.get 2 = 0#8 then .force p extra arg (mkWord (f.get 3) (f.get 4)) else .forceRelease p extra arg
  | 0x0C => .clearvalve p extra
  | 0x0D => .read p extra arg (f.get 2)
  | 0x0E => .next p extra
  | 0x0F => .ack p extra (mkWord (f.get 2) (f.get 3))
  | 0x10 => .enable p extra (mkWord (f.get 2) (f.get 3))
  | _ => .unknown p extra (f.get 0)

/-- The command that a completed frame is: `count` whole bytes were clocked in on SDI in one select assertion, `last` are the last
twelve of them, and `tail` the bits (0 to 7) of a last byte that did not reach eight (R162, R163). -/
def frameCommand (p : Port) (count : Nat) (last : List Byte) (tail : Fin 8) : Instr :=
  if h : count < 12 then .shortFrame p ⟨8 * count + tail.val, by omega⟩
  else
    let extra := 8 * (count - 12) + tail.val
    if crc8 (last.take 11) = last.getD 11 0#8 then goodCommand p extra (twelve last)
    else .badCrc p extra (twelve last)

/-- The command that a completed frame is, from all its whole bytes (R162, R163). -/
def decodeFrame (p : Port) (bytes : List Byte) (tail : Fin 8) : Instr :=
  frameCommand p bytes.length (bytes.drop (bytes.length - 12)) tail

/-- A frame's twelve bytes: code, ARG, nine data bytes filled with $00, and the CRC (R163, R167). -/
def frameBytes (code arg : Byte) (data : List Byte) : List Byte :=
  let body := code :: arg :: (packData data).toList
  body ++ [crc8 body]

/-- The twelve bytes of a good frame; a command that is no good frame has none. FORCE's release option is written as 1. -/
def encodeGood : Instr → Option (List Byte)
  | .nop _ _ => some (frameBytes 0x01#8 0#8 [])
  | .post _ _ slot sense tier weight asked lease =>
    some (frameBytes 0x02#8 slot [sense, tier, weight, hiByte asked, loByte asked, lease])
  | .renew _ _ slots => some (frameBytes 0x03#8 slots [])
  | .drop _ _ slots => some (frameBytes 0x04#8 slots [])
  | .allow _ _ value lease => some (frameBytes 0x05#8 0#8 [hiByte value, loByte value, lease])
  | .vote _ _ v => some (frameBytes 0x06#8 v [])
  | .setp _ _ id a b => some (frameBytes 0x07#8 id [hiByte a, loByte a, hiByte b, loByte b])
  | .getp _ _ id => some (frameBytes 0x08#8 id [])
  | .start _ _ => some (frameBytes 0x09#8 0#8 [])
  | .unstart _ _ => some (frameBytes 0x0A#8 0#8 [])
  | .force _ _ ch duty => some (frameBytes 0x0B#8 ch [0#8, hiByte duty, loByte duty])
  | .forceRelease _ _ ch => some (frameBytes 0x0B#8 ch [1#8])
  | .clearvalve _ _ => some (frameBytes 0x0C#8 0#8 [])
  | .read _ _ cls index => some (frameBytes 0x0D#8 cls [index])
  | .next _ _ => some (frameBytes 0x0E#8 0#8 [])
  | .ack _ _ set => some (frameBytes 0x0F#8 0#8 [hiByte set, loByte set])
  | .enable _ _ set => some (frameBytes 0x10#8 0#8 [hiByte set, loByte set])
  | .unknown _ _ code => some (frameBytes code 0#8 [])
  | .shortFrame _ _ => none
  | .badCrc _ _ _ => none
  | .powerOnReset => none
  | .resetLineReset => none
  | .supplyDipReset => none
  | .leaseExpiry _ _ => none
  | .cycleExpiry => none
  | .allowanceLeaseExpiry => none
  | .dwellExpiry => none
  | .travelTimeout => none
  | .retryAttempt => none
  | .valveAtAsserted => none
  | .valveAtDeasserted => none
  | .hvReadyRise => none
  | .hvReadyFall => none
  | .primeTimerExpiry => none
  | .dormantTimerExpiry => none
  | .linkTimerExpiry _ => none
  | .conversion _ _ => none
  | .holdExpiry _ => none
  | .flowEdge _ _ => none
  | .stallExpiry _ => none
  | .periodBoundary _ => none

/-- The port a frame arrives on and the SCK cycles it was clocked with; a command that is no frame has none (R162). -/
def Instr.frameOn : Instr → Option (Port × Nat)
  | .nop p extra => some (p, 96 + extra)
  | .post p extra _ _ _ _ _ _ => some (p, 96 + extra)
  | .renew p extra _ => some (p, 96 + extra)
  | .drop p extra _ => some (p, 96 + extra)
  | .allow p extra _ _ => some (p, 96 + extra)
  | .vote p extra _ => some (p, 96 + extra)
  | .setp p extra _ _ _ => some (p, 96 + extra)
  | .getp p extra _ => some (p, 96 + extra)
  | .start p extra => some (p, 96 + extra)
  | .unstart p extra => some (p, 96 + extra)
  | .force p extra _ _ => some (p, 96 + extra)
  | .forceRelease p extra _ => some (p, 96 + extra)
  | .clearvalve p extra => some (p, 96 + extra)
  | .read p extra _ _ => some (p, 96 + extra)
  | .next p extra => some (p, 96 + extra)
  | .ack p extra _ => some (p, 96 + extra)
  | .enable p extra _ => some (p, 96 + extra)
  | .unknown p extra _ => some (p, 96 + extra)
  | .shortFrame p clocks => some (p, clocks.val)
  | .badCrc p extra _ => some (p, 96 + extra)
  | .powerOnReset => none
  | .resetLineReset => none
  | .supplyDipReset => none
  | .leaseExpiry _ _ => none
  | .cycleExpiry => none
  | .allowanceLeaseExpiry => none
  | .dwellExpiry => none
  | .travelTimeout => none
  | .retryAttempt => none
  | .valveAtAsserted => none
  | .valveAtDeasserted => none
  | .hvReadyRise => none
  | .hvReadyFall => none
  | .primeTimerExpiry => none
  | .dormantTimerExpiry => none
  | .linkTimerExpiry _ => none
  | .conversion _ _ => none
  | .holdExpiry _ => none
  | .flowEdge _ _ => none
  | .stallExpiry _ => none
  | .periodBoundary _ => none

/-- The command a table word spells. No row of spec/opcode_table.json gives bits: the commands are whole frames, whose bytes
`decodeFrame` reads, and events, which have no bits at all (log 17). So no word spells a command. -/
def decodeTableWord (_nbits _w : Nat) : Option Instr := none

end Sys2Proof
end

