-- ==== Sys2Proof/Machine/Receive.lean ====
section
/-!
DEFINITION. The receiving side of a link port (R162): the select line, the bits that SDI carries, the bytes they make, and the
command of a completed frame put at the end of the queue. These are the port's inputs, not rows of the table: the command that
a frame becomes is the row (log 4).
-/

namespace Sys2Proof.Machine

/-- The port as a frame begins or ends: no byte counted, no bit kept, and no frame to ignore (R162). -/
def LinkPort.receiverAt (l : LinkPort) (selected : Bool) : LinkPort :=
  { l with selected := selected, ignored := false, byteCount := 0, partialBits := [], lastBytes := [] }

/-- Select is asserted: a frame begins, unless one is in progress (R162). -/
def LinkPort.select (l : LinkPort) : LinkPort := if l.selected then l else l.receiverAt true

/-- A rising edge of SCK with a bit on SDI. The eighth bit makes a byte, which is counted and kept among the last twelve; nothing
is counted outside a frame or in one that is ignored (R162). -/
def LinkPort.clockIn (l : LinkPort) (sdi : Bool) : LinkPort :=
  if l.selected = false ∨ l.ignored = true then l
  else if l.partialBits.length < 7 then { l with partialBits := l.partialBits ++ [sdi] }
  else
    let bytes := l.lastBytes ++ [byteOfBits (l.partialBits ++ [sdi])]
    { l with partialBits := [], byteCount := l.byteCount + 1, lastBytes := bytes.drop (bytes.length - 12) }

/-- The command of the frame that a release of select completes, if it completes one (R162). -/
def LinkPort.completed (l : LinkPort) (p : Port) : Option Instr :=
  if l.selected = true ∧ l.ignored = false then
    some (frameCommand p l.byteCount l.lastBytes (Fin.ofNat 8 l.partialBits.length))
  else none

/-- Select of a port is asserted. -/
def State.selectAsserted (s : State) (p : Port) : State := s.setPort p (s.port p).select

/-- SCK of a port rises with a bit on SDI. -/
def State.sckRises (s : State) (p : Port) (sdi : Bool) : State := s.setPort p ((s.port p).clockIn sdi)

/-- Select of a port is deasserted: the frame is complete, its command waits behind those that wait already, and the byte count
returns to 0. A frame that is ignored is not completed as a frame (R162). -/
def State.selectReleased (s : State) (p : Port) : State :=
  { s.setPort p ((s.port p).receiverAt false) with pending := s.pending ++ ((s.port p).completed p).toList }

end Sys2Proof.Machine
end

