-- ==== Sys2Proof/Machine/Time.lean ====
section
/-!
DEFINITION. The passing of time: one tick of the time base, which counts every running timer down (log 1). A timer that it brings to
0 has run out, and its expiry joins the queue of waiting commands (log 2).
-/

namespace Sys2Proof.Machine

open Sys2Proof.Config (Timer)

/-- A running timer counts down; a stopped one stays stopped. -/
def tickTimer (t : Timer) : Timer := t.map (fun us => us - Sys2Proof.Config.tickMicros)

def LinkPort.tick (l : LinkPort) : LinkPort := { l with linkTimer := tickTimer l.linkTimer }

def Demand.tick (d : Demand) : Demand := { d with lease := tickTimer d.lease }

def TempChannel.tick (c : TempChannel) : TempChannel := { c with hold := tickTimer c.hold }

def FlowChannel.tick (c : FlowChannel) : FlowChannel := { c with stall := tickTimer c.stall }

def PwmChannel.tick (c : PwmChannel) : PwmChannel := { c with periodLeft := tickTimer c.periodLeft }

/-- The time base counts on, and every running timer of the part counts down (R104; R13, R22, R46, R54, R70, R88, R103, R134, R171). -/
def State.countDown (s : State) : State :=
  { s with
    ports := mapTable LinkPort.tick s.ports
    demands := mapTable Demand.tick s.demands
    alloc := { s.alloc with cycleLeft := tickTimer s.alloc.cycleLeft, allowLease := tickTimer s.alloc.allowLease }
    valve := { s.valve with dwell := tickTimer s.valve.dwell, travel := tickTimer s.valve.travel }
    regime := { s.regime with prime := tickTimer s.regime.prime, dormant := tickTimer s.regime.dormant }
    temps := mapTable TempChannel.tick s.temps
    flows := mapTable FlowChannel.tick s.flows
    pwm := mapTable PwmChannel.tick s.pwm
    timeBase := s.timeBase + Sys2Proof.Config.tickMicros }

/-! ## What falls due -/

/-- The expiry commands: one for each posted slot, port, channel and loop, and those of the single timers. -/
def allExpiries : List Instr :=
  (allZones.flatMap fun z => ([0, 1, 2, 3] : List (Fin 4)).map (Instr.leaseExpiry z)) ++
    [.cycleExpiry, .allowanceLeaseExpiry, .dwellExpiry, .travelTimeout, .retryAttempt, .primeTimerExpiry,
      .dormantTimerExpiry] ++
    allPorts.map Instr.linkTimerExpiry ++ allTemps.map Instr.holdExpiry ++ allLoops.map Instr.stallExpiry ++
    allPwm.map Instr.periodBoundary

/-- The timer of an expiry has run out, in the state in which that expiry comes: the travel timer means a timeout in TRAVEL and a
retry in RETRY_WAIT (R64, R65). A command that is no expiry never falls due. -/
def State.isDue (s : State) : Instr → Bool
  | .leaseExpiry z k => ranOut (s.demand (postedIx z k)).lease
  | .cycleExpiry => ranOut s.alloc.cycleLeft
  | .allowanceLeaseExpiry => ranOut s.alloc.allowLease
  | .dwellExpiry => ranOut s.valve.dwell
  | .travelTimeout => s.valve.state == .travel && ranOut s.valve.travel
  | .retryAttempt => s.valve.state == .retryWait && ranOut s.valve.travel
  | .primeTimerExpiry => ranOut s.regime.prime
  | .dormantTimerExpiry => ranOut s.regime.dormant
  | .linkTimerExpiry p => ranOut (s.port p).linkTimer
  | .holdExpiry c => ranOut (s.temp c).hold
  | .stallExpiry l => ranOut (s.flow l).stall
  | .periodBoundary c => ranOut (s.out c).periodLeft
  | .nop .. | .post .. | .renew .. | .drop .. | .allow .. | .vote .. | .setp .. | .getp .. | .start .. | .unstart .. | .force ..
  | .forceRelease .. | .clearvalve .. | .read .. | .next .. | .ack .. | .enable .. | .unknown .. | .shortFrame .. | .badCrc ..
  | .powerOnReset | .resetLineReset | .supplyDipReset | .valveAtAsserted | .valveAtDeasserted | .hvReadyRise | .hvReadyFall
  | .conversion .. | .flowEdge .. => false

/-- A command put before the first one that it is taken before. -/
def insertBy (before : Instr → Instr → Bool) (c : Instr) : List Instr → List Instr
  | [] => [c]
  | d :: rest => if before c d then c :: d :: rest else d :: insertBy before c rest

/-- Commands in the order that `before` gives. -/
def orderBy (before : Instr → Instr → Bool) (l : List Instr) : List Instr := l.foldr (insertBy before) []

/-- The expiries that are due, in an order the manual leaves open (log 3). -/
def State.dueExpiries (s : State) : List Instr :=
  orderBy (Sys2Proof.Config.takenFirst s.timeBase) (allExpiries.filter s.isDue)

/-- One tick: every timer counts down, and the expiries that are due join the queue (logs 1, 2 and 3). -/
def State.tick (s : State) : State :=
  { s.countDown with pending := s.pending ++ s.countDown.dueExpiries }

end Sys2Proof.Machine
end

