-- ==== Sys2Proof/WellFormed.lean ====
section
/-!
DEFINITION. Which commands are well formed. The operand types admit only what the wire can carry; what they cannot rule out
is checked here: UNKNOWN carries a code outside the command table, and BAD_CRC a frame whose CRC fails (R163, R165).
-/

namespace Sys2Proof

/-- The checks on a command's operands. -/
def Instr.wf : Instr → Bool
  | .unknown _ _ code => !Machine.knownCode code
  | .badCrc _ _ frame => Machine.crc8 (frame.toList.take 11) != frame.toList.getD 11 0#8
  | .nop .. => true
  | .post .. => true
  | .renew .. => true
  | .drop .. => true
  | .allow .. => true
  | .vote .. => true
  | .setp .. => true
  | .getp .. => true
  | .start .. => true
  | .unstart .. => true
  | .force .. => true
  | .forceRelease .. => true
  | .clearvalve .. => true
  | .read .. => true
  | .next .. => true
  | .ack .. => true
  | .enable .. => true
  | .shortFrame .. => true
  | .powerOnReset => true
  | .resetLineReset => true
  | .supplyDipReset => true
  | .leaseExpiry .. => true
  | .cycleExpiry => true
  | .allowanceLeaseExpiry => true
  | .dwellExpiry => true
  | .travelTimeout => true
  | .retryAttempt => true
  | .valveAtAsserted => true
  | .valveAtDeasserted => true
  | .hvReadyRise => true
  | .hvReadyFall => true
  | .primeTimerExpiry => true
  | .dormantTimerExpiry => true
  | .linkTimerExpiry .. => true
  | .conversion .. => true
  | .holdExpiry .. => true
  | .flowEdge .. => true
  | .stallExpiry .. => true
  | .periodBoundary .. => true

end Sys2Proof
end

