-- ==== Sys2Proof/Safety.lean ====
section
/-!
DEFINITION. What the part keeps at every step, block by block: the facts that the manual says are so "at any moment". The
statements of Certificates/Slice0/Obligations.lean are made of these.
-/

namespace Sys2Proof.Machine

/-! ## Link Ports and the History Ring (10, 11) -/

/-- R162, R168, R170, R171, R176: the receiver keeps fewer than eight bits of a byte and the last twelve bytes, and nothing outside
a frame or of an ignored one; the attention line follows flags and enables, LOST is always enabled, ALLOWANCE stands on port
B alone, a running link timer belongs to a PRESENT port, the ring holds the newest 32 records, and every cursor stands on a
record of the ring or at its empty end. -/
structure State.PortsOk (s : State) : Prop where
  line : ∀ p, (s.port p).attention = lineFor (s.port p).flags (s.port p).enables
  lostEnabled : ∀ p, (s.port p).enables.getLsbD 0 = true
  allowanceOnB : ∀ p, p ≠ .B → (s.port p).flags.getLsbD 8 = false
  timedPresent : ∀ p, (s.port p).linkTimer.isSome = true → (s.port p).presence = .present
  receiving : ∀ p, (s.port p).partialBits.length ≤ 7 ∧ (s.port p).lastBytes.length = min 12 (s.port p).byteCount
  idle : ∀ p, (s.port p).selected = false ∨ (s.port p).ignored = true →
    (s.port p).byteCount = 0 ∧ (s.port p).partialBits = []
  ignoring : ∀ p, (s.port p).ignored = true → (s.port p).selected = true
  ringLength : s.ring.records.length = min 32 s.ring.appended
  cursors : ∀ p, s.ring.oldest ≤ (s.port p).cursor ∧ (s.port p).cursor ≤ s.ring.appended + 1

/-! ## Parameter Store (09) -/

/-- A value that a domain of R149 admits; the second half of anything but a pair is 0. -/
def Domain.Admits : Domain → Int → Int → Prop
  | .num lo hi, v, w => (lo : Int) ≤ v ∧ v ≤ hi ∧ w = 0
  | .temp lo hi, v, w => lo ≤ v ∧ v ≤ hi ∧ w = 0
  | .convPair, v, w => 0 ≤ v ∧ v ≤ 4095 ∧ -400 ≤ w ∧ w ≤ 1500
  | .mapPair, v, w => 0 ≤ v ∧ v ≤ 2400 ∧ 0 ≤ w ∧ w ≤ 1000
  | .oneOf vals, v, w => (∃ n ∈ vals, v = (n : Int)) ∧ w = 0
  | .condSet, v, w => 0 ≤ v ∧ v < 32 ∧ w = 0
  | .condExpect, v, w => 0 ≤ v ∧ v < 32 ∧ w = 0

/-- R149 to R153: a written parameter holds a value of its range, put there by a port that may write it; an unwritten one holds
its reset value; and COMP_MIN is never above a written COMP_MAX. -/
structure State.ParamsOk (s : State) : Prop where
  written : ∀ q, (s.param q).written = true → q.row.domain.Admits (s.param q).value (s.param q).second
  writer : ∀ q, (s.param q).written = true → ∃ p, (s.param q).writer = some p ∧ (q.owner = none ∨ q.owner = some (portZone p))
  unwritten : ∀ q, (s.param q).written = false → s.param q = ParamEntry.initial q
  compOrder : (s.param .compMax).written = true → s.int .compMin ≤ s.int .compMax

/-! ## Demand Table (01) -/

/-- What R3 and R16 say of a standing demand's numbers in each of its states. -/
def Demand.GrantedOk (d : Demand) : Prop :=
  match d.state with
  | .served => d.granted = d.asked
  | .partly => 0 < d.granted ∧ d.granted < d.asked
  | .free | .waiting | .starved | .held => d.granted = 0

/-- R3, R6, R13, R17, R18, R20 and the checks of R5: the age list holds each standing demand once and nothing else, a FREE slot is
cleared, numbers lie in their ranges, posted demands carry a lease, slot G carries PROTECT at weight 15 and none, and the posted
demands of one zone share one sense. -/
structure State.DemandsOk (s : State) : Prop where
  ageNodup : s.age.Nodup
  ageExact : ∀ i, i ∈ s.age ↔ (s.demand i).stands = true
  freeClear : ∀ i, (s.demand i).stands = false → s.demand i = Demand.freeSlot
  ranges : ∀ i, (s.demand i).stands = true →
    1 ≤ (s.demand i).weight ∧ (s.demand i).weight ≤ 15 ∧ 1 ≤ (s.demand i).asked ∧ (s.demand i).asked ≤ 480 ∧
      (s.demand i).starveCount ≤ 255
  granted : ∀ i, (s.demand i).GrantedOk
  episode : ∀ i, (s.demand i).starveCount = 0 → (s.demand i).starveMark = false
  leased : ∀ z k, (s.demand (postedIx z k)).stands = true →
    1 ≤ (s.demand (postedIx z k)).leaseLength ∧ (s.demand (postedIx z k)).leaseLength ≤ 60 ∧
      ∃ us, (s.demand (postedIx z k)).lease = some us ∧ us ≤ seconds (s.demand (postedIx z k)).leaseLength
  synthetic : ∀ z, (s.demand (gIx z)).stands = true →
    (s.demand (gIx z)).tier = .protect ∧ (s.demand (gIx z)).weight = 15 ∧ (s.demand (gIx z)).lease = none
  motorCools : ∀ i, (s.demand i).stands = true → zoneOfIx i = .motor → (s.demand i).sense = .cool
  chargeOnBattery : ∀ i, (s.demand i).stands = true → (s.demand i).tier = .charge → zoneOfIx i = .battery
  oneSense : ∀ z j k, (s.demand (postedIx z j)).stands = true → (s.demand (postedIx z k)).stands = true →
    (s.demand (postedIx z j)).sense = (s.demand (postedIx z k)).sense

/-! ## Allocator (02) -/

/-- The sum over a zone's entries of a grant set. -/
def GrantSet.zoneSum (g : GrantSet) (z : Zone) : Nat :=
  ((g.entries.filter (fun e => zoneOfIx e.ix == z)).map GrantEntry.total).sum

/-- R35, R37, R40, R41, R42 and R47 of one grant set: no resource grants more than its pool, the credit stays within SCAV's total,
the draw within the allowance, a held demand receives nothing, and the loop totals are the sums they are said to be. -/
structure GrantSet.Ok (g : GrantSet) : Prop where
  scav : g.scavTotal ≤ g.scavPool
  credit : g.creditTotal ≤ g.scavTotal
  rad : g.radTotal ≤ g.radPool
  comp : g.compTotal + g.revoked ≤ g.compPool
  revoked : g.revoked = 0 ∨ g.compTotal = 0
  ptc : g.ptcTotal ≤ g.ptcPool
  heaters : g.heatCabin + g.heatBattery = g.ptcTotal
  heaterDraw : g.heaterDraw = g.ptcTotal
  totalDraw : g.totalDraw = g.compDraw + g.heaterDraw
  withinAllowance : g.totalDraw ≤ g.allowance
  held : ∀ e ∈ g.entries, e.held = true → e.total = 0
  entriesOnce : (g.entries.map GrantEntry.ix).Nodup
  loops : ∀ z, g.loopTotal.get (zoneIx z) = g.zoneSum z
  senses : ∀ z, g.loopSense.get (zoneIx z) = none ↔ g.loopTotal.get (zoneIx z) = 0

/-- R22, R43 to R48: the cycle timer runs in RUN and only there, an allowance is in force in RUN and only there, only a GRANTED one
has a lease, values lie in their ranges, and both grant sets kept are sound. -/
structure State.AllocOk (s : State) : Prop where
  cycling : s.alloc.cycleLeft.isSome = s.running
  inForce : (s.alloc.inForce = .noAllowance) ↔ s.running = false
  leased : s.alloc.allowLease.isSome = true ↔ ∃ v, s.alloc.inForce = .granted v
  granted : ∀ v, s.alloc.inForce = .granted v → v ≤ 1600
  waiting : ∀ v l, s.alloc.pendingAllow = some (v, l) → s.running = true ∧ v ≤ 1600 ∧ 1 ≤ l ∧ l ≤ 60
  published : ∀ g, s.alloc.published = some g → g.Ok ∧ g.seq = s.alloc.seq
  previous : ∀ g, s.alloc.previous = some g → g.Ok ∧ s.alloc.published ≠ none
  setupHasNone : s.running = false → s.alloc.published = none

/-! ## Circuit Mode Controller (03) -/

/-- The code R55 puts on the drive lines. -/
def Valve.lines (v : Valve) : BitVec 2 :=
  match v.state with
  | .settled => modeCode v.toMode
  | .travel => modeCode v.toMode
  | .retryWait => restCode
  | .locked => restCode

/-- R54, R55, R59, R64, R65, R67: the attempt, the timers and the drive lines agree with the valve state. -/
structure State.ValveOk (s : State) : Prop where
  settled : s.valve.state = .settled → s.valve.fromMode = s.valve.toMode ∧ s.valve.attempt = 0 ∧ s.valve.travel = none
  moving : s.valve.state ≠ .settled → s.valve.dwell = none ∧ 1 ≤ s.valve.attempt ∧ s.valve.attempt ≤ 3
  waiting : s.valve.state = .retryWait → s.valve.attempt ≤ 2
  locked : s.valve.state = .locked → s.valve.attempt = 3 ∧ s.valve.travel = none
  timed : s.valve.state = .travel ∨ s.valve.state = .retryWait → s.valve.travel.isSome = true
  lines : s.valve.driveCode = s.valve.lines

/-! ## Regime Controller (04) -/

/-- R70, R73, R74, R75, R78, R79, R81: the regime is none in SETUP and only there; in RUN it is always the one its inputs resolve to;
charge-pending is never out of date; the prime timer runs in PRIMING alone; the dormant timer runs exactly in PARK with no demand
standing; DORMANT has no demand standing. -/
structure State.RegimeOk (s : State) : Prop where
  setupHasNone : s.regime.regime = .noRegime ↔ s.running = false
  charging : s.running = true →
    (s.chargeCondition = true ↔ s.regime.regime = .priming ∨ s.regime.regime = .charge)
  driving : s.running = true → (s.regime.regime = .drive ↔ s.chargeCondition = false ∧ s.driveVote = true)
  pending : s.regime.chargePending = (s.running && s.chargeVote && !s.hvReady)
  prime : s.regime.prime.isSome = true ↔ s.regime.regime = .priming
  dormantTimer : s.regime.dormant.isSome = true ↔ s.regime.regime = .park ∧ s.tableEmpty = true
  dormantEmpty : s.regime.regime = .dormant → s.tableEmpty = true

/-! ## Temperature Front End and Flow Capture (05, 06) -/

/-- R88, R94 to R98, R103 to R106: every temperature lies within -400 to 1500 tenths, the hold runs in STALE alone, the recover
count stays below 15; a stalled flow channel has flow 0, the stall timer runs exactly while a reference edge is held, that edge is
not later than the time base and at most 5 s old while the timer has time left, and fewer periods are taken than AVG asks for. -/
structure State.SensingOk (s : State) : Prop where
  filtered : ∀ c, -400 ≤ (s.temp c).filtered ∧ (s.temp c).filtered ≤ 1500
  reading : ∀ c, -400 ≤ (s.temp c).lastReading ∧ (s.temp c).lastReading ≤ 1500
  hold : ∀ c, (s.temp c).hold.isSome = true ↔ (s.temp c).tag = .stale
  recover : ∀ c, (s.temp c).recover ≤ 15 ∧ ((s.temp c).recover ≠ 0 → (s.temp c).tag = .stale ∨ (s.temp c).tag = .blind)
  started : ∀ c, (s.temp c).tag = .init → (s.temp c).filtered = 0 ∧ (s.temp c).lastReading = 0
  stalled : ∀ l, (s.flow l).tag = .stall → (s.flow l).flow = 0
  flowRange : ∀ l, (s.flow l).flow ≤ 65535
  referenced : ∀ l, (s.flow l).stall.isSome = (s.flow l).reference.isSome
  referencePast : ∀ l r, (s.flow l).reference = some r → r ≤ s.timeBase
  stallWithin : ∀ l r left, (s.flow l).reference = some r → (s.flow l).stall = some left → 0 < left →
    s.timeBase - r + left ≤ 5000000
  periods : ∀ l, (s.flow l).periods < s.num (.avg l) ∧ (s.flow l).accumulator ≤ 2000000 * (s.flow l).periods

/-! ## Zone Monitor (06, 07) -/

/-- R109 to R132: the conditions follow their sources, CABIN has neither STALL nor SHORT, guards are UNARMED in SETUP and only
there, an ARMED guard matches and a TRIPPED one does not, a G demand stands exactly while its guard is TRIPPED with action SYNTH,
and SHED is active exactly while a guard is TRIPPED with action SHED. -/
structure State.ZonesOk (s : State) : Prop where
  blind : ∀ z, (s.zone z).cond.blind = !s.usable (zoneTemp z)
  stall : ∀ l, (s.zone (loopZone l)).cond.stall = ((s.flow l).tag == .stall)
  cabin : (s.zone .cabin).cond.stall = false ∧ (s.zone .cabin).cond.short = false
  highJudged : ∀ z, (s.param (.high z)).written = false → (s.zone z).cond.high = false
  lowJudged : ∀ z, (s.param (.low z)).written = false → (s.zone z).cond.low = false
  short : ∀ l, (s.zone (loopZone l)).cond.short = true → 0 < (s.record l).shortfall
  counters : ∀ l, (s.record l).shortfall ≤ 255 ∧ -1200 ≤ (s.record l).delivered ∧ (s.record l).delivered ≤ 1200
  unmeasured : ∀ l, (s.record l).measured = false → (s.record l).delivered = 0 ∧ (s.record l).saturated = false
  trips : ∀ z, (s.zone z).trips ≤ 255
  unarmed : ∀ z, (s.zone z).guard = .unarmed ↔ s.running = false
  armed : ∀ z, (s.zone z).guard = .armed → s.guardMatches z = true
  tripped : ∀ z, (s.zone z).guard = .tripped → s.guardMatches z = false
  synthetic : ∀ z, (s.demand (gIx z)).stands = true ↔ (s.zone z).guard = .tripped ∧ s.guardAction z = .synth
  shed : s.shed = true ↔ ∃ z, (s.zone z).guard = .tripped ∧ s.guardAction z = .shed

/-! ## Actuator Drive (08) -/

/-- R133, R140, R142, R143, R146: every duty lies within 0 to 1000 per mille, no force stands in RUN, in DORMANT every duty is 0 and
none is pending, and the limp duties are the setpoints outside RUN. -/
structure State.OutputsOk (s : State) : Prop where
  range : ∀ c, (s.out c).target ≤ 1000 ∧ (s.out c).setpoint ≤ 1000 ∧ (s.out c).applied ≤ 1000 ∧
    (∀ d, (s.out c).pendingDuty = some d → d ≤ 1000) ∧ ∀ d, (s.out c).force = some d → d ≤ 1000
  noForceInRun : s.running = true → ∀ c, (s.out c).force = none
  dormant : s.regime.regime = .dormant → ∀ c, (s.out c).setpoint = 0 ∧ (s.out c).applied = 0 ∧ (s.out c).pendingDuty = none
  limp : s.running = false → ∀ c, (s.out c).setpoint = limpDuty c ∧ (s.out c).target = 0

/-! ## The whole part -/

/-- Every block is sound. -/
structure State.Ok (s : State) : Prop where
  ports : s.PortsOk
  params : s.ParamsOk
  demands : s.DemandsOk
  alloc : s.AllocOk
  valve : s.ValveOk
  regime : s.RegimeOk
  sensing : s.SensingOk
  zones : s.ZonesOk
  outputs : s.OutputsOk

/-! ## The checks of a POST and a validation, as the manual orders them -/

/-- The eight checks of R5 in their order, on the bytes as sent: the status of the first that fails. -/
def State.postVerdict (s : State) (p : Port) (slot sense tier : Byte) (asked : Word) : Option Status :=
  let z := portZone p
  if s.running = false then some .notRunning
  else if (s.port p).flags.getLsbD 0 = true then some .lostUnacked
  else if 3 < slot.toNat then some .badArg
  else if 1 < sense.toNat ∨ 3 < tier.toNat then some .badArg
  else if p = .M ∧ sense.toNat = 1 then some .badArg
  else if p ≠ .B ∧ tier.toNat = 1 then some .badArg
  else if asked.toNat = 0 then some .badArg
  else if ([0, 1, 2, 3] : List (Fin 4)).any (fun j =>
      j.val != slot.toNat && (s.demand (postedIx z j)).stands &&
        (s.demand (postedIx z j)).sense != (if sense.toNat = 0 then Sense.cool else Sense.heat)) then
    some .senseConflict
  else none

/-! ## A cycle expiry's allowance and grant set -/

/-- The allowance settled as a cycle expiry begins: a pending one comes into force with a fresh lease (R45). -/
def State.settled (s : State) : State :=
  match s.alloc.pendingAllow with
  | some (v, l) =>
    { s with
      alloc := { s.alloc with inForce := .granted v, allowLease := some (1000000 * l), pendingAllow := none } }
  | none => s

/-- The grant set a cycle expiry publishes. -/
def State.cycleGrants (s : State) : GrantSet := s.settled.grantSet

/-- The order of the tiers, highest first (R3). -/
def Tier.rank : Tier → Nat
  | .protect => 0
  | .charge => 1
  | .drive => 2
  | .comfort => 3

end Sys2Proof.Machine

namespace Sys2Proof

/-- The three reset commands (R172). -/
def Instr.isReset : Instr → Bool
  | .nop .. => false
  | .post .. => false
  | .renew .. => false
  | .drop .. => false
  | .allow .. => false
  | .vote .. => false
  | .setp .. => false
  | .getp .. => false
  | .start .. => false
  | .unstart .. => false
  | .force .. => false
  | .forceRelease .. => false
  | .clearvalve .. => false
  | .read .. => false
  | .next .. => false
  | .ack .. => false
  | .enable .. => false
  | .unknown .. => false
  | .shortFrame .. => false
  | .badCrc .. => false
  | .powerOnReset => true
  | .resetLineReset => true
  | .supplyDipReset => true
  | .leaseExpiry .. => false
  | .cycleExpiry => false
  | .allowanceLeaseExpiry => false
  | .dwellExpiry => false
  | .travelTimeout => false
  | .retryAttempt => false
  | .valveAtAsserted => false
  | .valveAtDeasserted => false
  | .hvReadyRise => false
  | .hvReadyFall => false
  | .primeTimerExpiry => false
  | .dormantTimerExpiry => false
  | .linkTimerExpiry .. => false
  | .conversion .. => false
  | .holdExpiry .. => false
  | .flowEdge .. => false
  | .stallExpiry .. => false
  | .periodBoundary .. => false

/-- The commands that are frames with a good CRC (R163). -/
def Instr.isGoodFrame : Instr → Bool
  | .nop .. => true
  | .post .. => true
  | .renew .. => true
  | .drop .. => true
  | .allow .. => true
  | .vote .. => true
  | .setp .. => true
  | .getp .. => true
  | .start .. => true
  | .unstart .. => true
  | .force .. => true
  | .forceRelease .. => true
  | .clearvalve .. => true
  | .read .. => true
  | .next .. => true
  | .ack .. => true
  | .enable .. => true
  | .unknown .. => true
  | .shortFrame .. => false
  | .badCrc .. => false
  | .powerOnReset => false
  | .resetLineReset => false
  | .supplyDipReset => false
  | .leaseExpiry .. => false
  | .cycleExpiry => false
  | .allowanceLeaseExpiry => false
  | .dwellExpiry => false
  | .travelTimeout => false
  | .retryAttempt => false
  | .valveAtAsserted => false
  | .valveAtDeasserted => false
  | .hvReadyRise => false
  | .hvReadyFall => false
  | .primeTimerExpiry => false
  | .dormantTimerExpiry => false
  | .linkTimerExpiry .. => false
  | .conversion .. => false
  | .holdExpiry .. => false
  | .flowEdge .. => false
  | .stallExpiry .. => false
  | .periodBoundary .. => false

end Sys2Proof
end

