-- ==== Sys2Proof/Certificates/Slice0/Obligations.lean ====
section
/-!
DEFINITION. The statements for the provers. A frame's effect is stated from `s.frameArrives p extra`, what a good frame leaves
before its command is looked at (R163); the statement GoodFramesRestartWakeAndRestore says what that is. `State.stage` puts a reply
in the port's staged reply (R164); `sent` is the model's record of what SDO carried (log 5).
-/

open Sys2Proof Sys2Proof.Machine

/-! ## The step, the resets -/

/-- Taking a command from the front of the queue is its effect on the rest. -/
def Obligations.StepRunsTheFrontCommand : Prop :=
  ∀ (c : Instr) (rest : List Instr) (s : State), s.pending = c :: rest → step s = exec c { s with pending := rest }

/-- The model's choice (logs 1, 2 and 3): on an empty queue one microsecond passes. The time base counts on by it, every running timer
counts down by it, the expiries whose timers then stand at 0 wait in the queue, each once and in an order left open, and nothing
else changes. -/
def Obligations.EmptyQueueStepIsOneMicrosecond : Prop :=
  ∀ s : State, s.pending = [] → ∃ t, step s = .next t ∧
    (∀ p, t.port p = { s.port p with linkTimer := (s.port p).linkTimer.map (· - 1) }) ∧
    (∀ i, t.demand i = { s.demand i with lease := (s.demand i).lease.map (· - 1) }) ∧
    (∀ c, t.temp c = { s.temp c with hold := (s.temp c).hold.map (· - 1) }) ∧
    (∀ l, t.flow l = { s.flow l with stall := (s.flow l).stall.map (· - 1) }) ∧
    (∀ c, t.out c = { s.out c with periodLeft := (s.out c).periodLeft.map (· - 1) }) ∧
    t = { s with
      ports := t.ports, demands := t.demands, temps := t.temps, flows := t.flows, pwm := t.pwm
      alloc := { s.alloc with cycleLeft := s.alloc.cycleLeft.map (· - 1), allowLease := s.alloc.allowLease.map (· - 1) }
      valve := { s.valve with dwell := s.valve.dwell.map (· - 1), travel := s.valve.travel.map (· - 1) }
      regime := { s.regime with prime := s.regime.prime.map (· - 1), dormant := s.regime.dormant.map (· - 1) }
      timeBase := s.timeBase + 1, pending := t.pending } ∧
    t.pending.Nodup ∧
    ∀ c : Instr, c ∈ t.pending ↔
      match c with
      | .leaseExpiry z k => (t.demand (postedIx z k)).lease = some 0
      | .cycleExpiry => t.alloc.cycleLeft = some 0
      | .allowanceLeaseExpiry => t.alloc.allowLease = some 0
      | .dwellExpiry => t.valve.dwell = some 0
      | .travelTimeout => t.valve.state = .travel ∧ t.valve.travel = some 0
      | .retryAttempt => t.valve.state = .retryWait ∧ t.valve.travel = some 0
      | .primeTimerExpiry => t.regime.prime = some 0
      | .dormantTimerExpiry => t.regime.dormant = some 0
      | .linkTimerExpiry p => (t.port p).linkTimer = some 0
      | .holdExpiry ch => (t.temp ch).hold = some 0
      | .stallExpiry l => (t.flow l).stall = some 0
      | .periodBoundary ch => (t.out ch).periodLeft = some 0
      | _ => False

/-- The three resets: every block at its reset state, the reset record by its cause, and with VALVE_AT asserted the arrival in
SEPARATE at once (R69). A frame in progress is ignored. These clauses are the model's choice and no rule of the manual: a period
length of 0 in the Allocator (log 21, DEDUCED); the record `sent` empty (log 5, DESIGN CHOICE); and the inputs' levels, the waiting
commands and the time base kept (logs 6, 8 and 10, DESIGN CHOICE). A power-on reset of the part as it is after reset changes nothing. -/
def Obligations.ResetsGiveEveryBlockItsValues : Prop :=
  (∀ s : State,
    let raised (cause : ResetCause) : ResetRecord := { cause := cause, count := min 255 (s.resetRecord.count + 1) }
    let Ended (r : ResetRecord) (t : State) : Prop :=
      (∀ p, t.port p =
        { selected := (s.port p).selected, ignored := (s.port p).selected, byteCount := 0, partialBits := [], lastBytes := []
          staged := { status := .restarted, echo := 0#8, data := packData [r.cause.code, BitVec.ofNat 8 r.count] }
          sent := [], flags := if s.valveAt then Notice.lost.mask ||| Notice.mode.mask else Notice.lost.mask
          enables := Notice.lost.mask, attention := true, linkTimer := none, presence := .present, cursor := 1
          overrun := false }) ∧
      (∀ i, t.demand i = Demand.freeSlot) ∧ t.age = [] ∧
      t.alloc =
        { cycleLength := 0, cycleLeft := none, seq := 0, inForce := .noAllowance, allowLease := none, pendingAllow := none
          published := none, previous := none } ∧
      t.valve =
        (if s.valveAt then
          { state := .settled, fromMode := .separate, toMode := .separate, attempt := 0, dwell := some 30000000
            travel := none, release := true, driveCode := 0 }
        else
          { state := .travel, fromMode := .separate, toMode := .separate, attempt := 1, dwell := none
            travel := some 20000000, release := true, driveCode := 0 }) ∧
      t.regime =
        { regime := .noRegime, voteM := .park, voteB := .noCharge, chargePending := false, prime := none, dormant := none } ∧
      (∀ c, t.temp c = { raw := 0, lastReading := 0, filtered := 0, tag := .init, hold := none, recover := 0 }) ∧
      (∀ l, t.flow l = { reference := none, accumulator := 0, periods := 0, flow := 0, tag := .stall, stall := none }) ∧
      (∀ l, t.record l = { delivered := 0, measured := false, saturated := false, shortfall := 0 }) ∧
      (∀ z, t.zone z =
        { cond := { high := false, low := false, stall := z != .cabin, blind := true, short := false }
          guard := .unarmed, trips := 0 }) ∧
      t.shed = false ∧
      (∀ c, t.out c =
        { target := 0, setpoint := limpDuty c, pendingDuty := none, applied := limpDuty c, force := none, period := 1000
          periodLeft := some 1000 }) ∧
      (∀ q, t.param q = { value := q.row.default.getD 0, second := 0, written := false, writer := none }) ∧
      t.running = false ∧ (∀ p, t.startVote p = false) ∧ t.setup.reason = .noFault ∧ t.setup.faultId = 0 ∧
      t.ring = { records := [], appended := 0 } ∧ t.resetRecord = r ∧
      t.hvReady = s.hvReady ∧ t.valveAt = s.valveAt ∧ t.pending = s.pending ∧ t.timeBase = s.timeBase
    (∃ t, exec .powerOnReset s = .next t ∧ Ended { cause := .powerOn, count := 0 } t) ∧
    (∃ t, exec .resetLineReset s = .next t ∧ Ended (raised .resetLine) t) ∧
    ∃ t, exec .supplyDipReset s = .next t ∧ Ended (raised .supplyDip) t) ∧
  exec .powerOnReset State.reset = .next State.reset

/-! ## Frames (10) -/

/-- The bytes of a good frame, after any bytes before them and before any bits of an unfinished byte, are read as the command they
were written for. And whatever twelve bytes of right CRC end a frame, its command is the one that byte 0 names, with the operands
its layout gives, quantities most significant byte first: the data bytes it does not use are not examined, any release option of
FORCE but 0 is a release, and a byte 0 above $10 or at 0 is unknown. -/
def Obligations.DecodeOfEncodeIsTheCommand : Prop :=
  (∀ (c : Instr) (frame before : List Byte) (tail : Fin 8) (p : Port),
    c.wf = true → encodeGood c = some frame → c.frameOn = some (p, 8 * (before.length + 12) + tail.val) →
    decodeFrame p (before ++ frame) tail = c) ∧
  ∀ (last : Vector Byte 12) (before : List Byte) (tail : Fin 8) (p : Port), crc8 (last.toList.take 11) = last.get 11 →
    let extra : Nat := 8 * before.length + tail.val
    let arg : Byte := last.get 1
    let data (k : Nat) : Byte := last.toList.getD (k + 2) 0#8
    let word (k : Nat) : Word := BitVec.ofNat 16 (256 * (data k).toNat + (data (k + 1)).toNat)
    decodeFrame p (before ++ last.toList) tail =
      match (last.get 0).toNat with
      | 0x01 => .nop p extra
      | 0x02 => .post p extra arg (data 0) (data 1) (data 2) (word 3) (data 5)
      | 0x03 => .renew p extra arg
      | 0x04 => .drop p extra arg
      | 0x05 => .allow p extra (word 0) (data 2)
      | 0x06 => .vote p extra arg
      | 0x07 => .setp p extra arg (word 0) (word 2)
      | 0x08 => .getp p extra arg
      | 0x09 => .start p extra
      | 0x0A => .unstart p extra
      | 0x0B => if (data 0).toNat = 0 then .force p extra arg (word 1) else .forceRelease p extra arg
      | 0x0C => .clearvalve p extra
      | 0x0D => .read p extra arg (data 0)
      | 0x0E => .next p extra
      | 0x0F => .ack p extra (word 0)
      | 0x10 => .enable p extra (word 0)
      | _ => .unknown p extra (last.get 0)

/-- The receiver of a port. Bits clocked in on SDI between an assertion of select and its release make bytes, most significant bit
first; the command that they are waits last in the queue, the bits of an unfinished byte are discarded, and the byte count is 0
again. Fewer than 12 whole bytes are a short frame, and 12 whose last is not the CRC of the others a frame of bad CRC. A frame in
progress at a reset is ignored. The lines are the port's inputs, not commands (log 4). -/
def Obligations.ReceiverReadsFramesFromBits : Prop :=
  ∀ (p : Port) (bytes : List Byte) (tail : List Bool) (s : State), tail.length < 8 →
    let wire : List Bool := bytes.flatMap (fun b => ([7, 6, 5, 4, 3, 2, 1, 0] : List Nat).map b.getLsbD) ++ tail
    let clocked (t : State) : State := wire.foldl (fun u x => u.sckRises p x) t
    let idle (l : LinkPort) : LinkPort :=
      { l with selected := false, ignored := false, byteCount := 0, partialBits := [], lastBytes := [] }
    let frame : Instr := decodeFrame p bytes (Fin.ofNat 8 tail.length)
    ((s.port p).selected = false →
      (clocked (s.selectAsserted p)).selectReleased p =
        { s.setPort p (idle (s.port p)) with pending := s.pending ++ [frame] }) ∧
    ((s.port p).selected = true → ∀ (c : Instr) (r : State), c.isReset = true → exec c s = .next r →
      (clocked r).selectReleased p = r.setPort p (idle (r.port p))) ∧
    (bytes.length < 12 → ∃ clocks : Fin 96, clocks.val = 8 * bytes.length + tail.length ∧ frame = .shortFrame p clocks) ∧
    ∀ (before : List Byte) (last : Vector Byte 12), bytes = before ++ last.toList →
      crc8 (last.toList.take 11) ≠ last.get 11 → frame = .badCrc p (8 * before.length + tail.length) last

/-- What every good frame does before its command: the staged reply has gone out, the link timer restarts with LINK_TIMEOUT and
the port is PRESENT. Where it ends DORMANT or brings port M or B back in RUN, the regime is the one that its inputs resolve to, and
REGIME is set on every port if the regime changed; the wake's resolution runs before the presence change (the model's reading,
log 18). Nothing else changes; that the cycle period in progress stays even where it has just begun is the model's choice (log 26). -/
def Obligations.GoodFramesRestartWakeAndRestore : Prop :=
  ∀ (p : Port) (extra : Nat) (s : State),
    let t := s.frameArrives p extra
    let arrived (l : LinkPort) : LinkPort :=
      { l with
        sent := (s.port p).staged.shifted (96 + extra), linkTimer := some (1000000 * s.num .linkTimeout)
        presence := .present }
    (s.regime.regime ≠ .dormant → ((s.port p).presence = .present ∨ s.running = false ∨ p = .C) →
      t = s.setPort p (arrived (s.port p))) ∧
    (s.running = true → (s.regime.regime = .dormant ∨ ((s.port p).presence = .absent ∧ p ≠ .C)) →
      let here (q : Port) : Bool := q == p || (s.port q).presence == .present
      let wantsCharge := s.regime.voteB == .charge && here .B
      let start := if s.regime.regime = .dormant then Regime.park else s.regime.regime
      let result :=
        if wantsCharge && s.hvReady then (if start = .priming ∨ start = .charge then start else .priming)
        else if s.regime.voteM == .drive && here .M then .drive
        else .park
      let same : Prop := result = s.regime.regime
      let flags (q : Port) : NoticeSet := (s.port q).flags ||| Notice.regime.mask
      let told (q : Port) : LinkPort :=
        if same then s.port q
        else { s.port q with flags := flags q, attention := flags q &&& (s.port q).enables != 0#9 }
      t.regime =
        { s.regime with
          regime := result, chargePending := wantsCharge && !s.hvReady
          prime :=
            if same then s.regime.prime
            else if result = .priming then some (1000000 * s.num .primeTime) else none
          dormant :=
            if same then s.regime.dormant
            else if result = .park ∧ s.tableEmpty = true then some (1000000 * s.num .dormantDelay) else none } ∧
      t.port p = arrived (told p) ∧ (∀ q, q ≠ p → t.port q = told q) ∧
      t = { s with ports := t.ports, regime := t.regime })

/-- Every frame carries out the reply staged before it: its status, its echo, its nine data bytes and their CRC, most
significant bit first, and zeros beyond them; and of another port it touches at most the notice flags, which it never clears,
and the line. What SDO carried is the model's record `sent` (log 5). -/
def Obligations.FramesCarryTheReplyAndStayOnTheirPort : Prop :=
  ∀ (c : Instr) (p : Port) (clocks : Nat) (s t : State), c.frameOn = some (p, clocks) → exec c s = .next t →
    let old := (s.port p).staged
    let body := old.status.code :: old.echo :: old.data.toList
    let bytes := body ++ [crc8 body]
    (t.port p).sent.length = clocks ∧
    (∀ k, k < clocks → (t.port p).sent.getD k false = (bytes.getD (k / 8) 0#8).getLsbD (7 - k % 8)) ∧
    ∀ q, q ≠ p →
      t.port q = { s.port q with flags := (t.port q).flags, attention := (t.port q).attention } ∧
      (s.port q).flags &&& ~~~(t.port q).flags = 0#9

/-- The frames that reach no other block. NOP, ACK, ENABLE and an unknown code: what each leaves on its port, and the NOTICES
object it answers with; the line's byte is 1 when asserted (the model's reading, log 11). A short frame and a frame of bad CRC
consume the staged reply, stage their own, and change nothing else: no command, no link timer, no presence, no wake. -/
def Obligations.PortFramesAnswerForThemselves : Prop :=
  ∀ (p : Port) (extra : Nat) (set : Word) (code : Byte) (clocks : Fin 96) (frame : Vector Byte 12) (s : State),
    let t := s.frameArrives p extra
    let l := t.port p
    let acked : LinkPort :=
      { l with flags := l.flags &&& ~~~(set.setWidth 9),
               attention := (l.flags &&& ~~~(set.setWidth 9)) &&& l.enables != 0#9 }
    let enabled : LinkPort :=
      { l with enables := set.setWidth 9 ||| 1#9, attention := l.flags &&& (set.setWidth 9 ||| 1#9) != 0#9 }
    let notices (x : LinkPort) : List Byte :=
      [(x.flags >>> 8).setWidth 8, x.flags.setWidth 8, (x.enables >>> 8).setWidth 8, x.enables.setWidth 8,
        if x.attention then 1#8 else 0#8]
    exec (.nop p extra) s = .next (t.stage p { status := .ok, echo := 0x01#8, data := packData (notices l) }) ∧
    exec (.ack p extra set) s =
      .next ((t.setPort p acked).stage p { status := .ok, echo := 0x0F#8, data := packData (notices acked) }) ∧
    exec (.enable p extra set) s =
      .next ((t.setPort p enabled).stage p { status := .ok, echo := 0x10#8, data := packData (notices enabled) }) ∧
    exec (.unknown p extra code) s =
      .next (t.stage p { status := .unknown, echo := code, data := Vector.replicate 9 0#8 }) ∧
    exec (.shortFrame p clocks) s = .next (s.setPort p
      { s.port p with
        sent := (s.port p).staged.shifted clocks.val
        staged := { status := .shortFrame, echo := 0#8, data := Vector.replicate 9 0#8 } }) ∧
    exec (.badCrc p extra frame) s = .next (s.setPort p
      { s.port p with
        sent := (s.port p).staged.shifted (96 + extra)
        staged := { status := .badCrc, echo := frame.get 0, data := Vector.replicate 9 0#8 } })

/-! ## The Demand Table (01) -/

/-- A POST that passes every check of R5: the slot holds the demand as sent, its numbers brought into range; a demand whose tier is
kept keeps its place in the age list and any other joins it as youngest; and the reply carries the record. An asked amount of 0 passes
no check (PostRefusedLeavesTheTable says its status), so a taken one is above 0. -/
def Obligations.PostTakenWritesItsSlot : Prop :=
  ∀ (p : Port) (extra : Nat) (slot : Fin 4) (sense : Sense) (tier : Tier) (slotByte senseByte tierByte weight lease : Byte)
    (asked : Word) (s : State),
    slotByte.toNat = slot.val → senseByte.toNat = sense.code → tierByte.toNat = tier.code →
    s.postVerdict p slotByte senseByte tierByte asked = none →
    let t := s.frameArrives p extra
    let i := postedIx (portZone p) slot
    let w := max 1 (min 15 weight.toNat)
    let a := min 480 asked.toNat
    let l := max 1 (min 60 lease.toNat)
    let d : Demand :=
      { state := .waiting, sense := sense, tier := tier, weight := w, asked := a, granted := 0, leaseLength := l,
        lease := some (1000000 * l), starveCount := 0, starveMark := false }
    0 < a ∧ exec (.post p extra slotByte senseByte tierByte weight asked lease) s = .next
      (({ t with
          demands := put t.demands i d
          age := if (s.demand i).stands = true ∧ (s.demand i).tier = tier then s.age else s.age.erase i ++ [i]
          regime := { t.regime with dormant := none } }).stage p
        { status := if w = weight.toNat ∧ a = asked.toNat ∧ l = lease.toNat then .ok else .clamped
          echo := 0x02#8
          data := packData
            (u8 1 ++ u8 sense.code ++ u8 tier.code ++ u8 w ++ u16 a ++ u16 0 ++ u8 l) })

/-- A POST that fails a check: the first check that fails decides the status, the table is left as it is, and the reply carries the
named slot's record, or zeros for a slot number above 3. -/
def Obligations.PostRefusedLeavesTheTable : Prop :=
  ∀ (p : Port) (extra : Nat) (slot sense tier weight lease : Byte) (asked : Word) (status : Status) (s : State),
    s.postVerdict p slot sense tier asked = some status →
    let t := s.frameArrives p extra
    exec (.post p extra slot sense tier weight asked lease) s = .next
      (t.stage p
        { status := status, echo := 0x02#8
          data :=
            if h : slot.toNat < 4 then
              packData (s.demand (postedIx (portZone p) ⟨slot.toNat, h⟩)).record
            else Vector.replicate 9 0#8 }) ∧
    t.demands = s.demands ∧ t.age = s.age

/-- RENEW and DROP: refused in SETUP and for a set beyond slots 0 to 3; otherwise RENEW restarts the lease of each named slot that
stands at its own length, DROP frees each and takes it out of the age list, in PARK starting the dormant timer if the table is empty
after it, and the reply gives the slots acted on and the named slots found FREE. The zeros of a refusal are the model's reading
(log 15). -/
def Obligations.RenewAndDropActOnTheNamedSlots : Prop :=
  ∀ (p : Port) (extra : Nat) (slots : Byte) (s : State), s.DemandsOk → s.RegimeOk →
    let t := s.frameArrives p extra
    let z := portZone p
    let named (k : Fin 4) (stands : Bool) : Bool := slots.getLsbD k.val && (s.demand (postedIx z k)).stands == stands
    let found (stands : Bool) : Nat :=
      (([0, 1, 2, 3] : List (Fin 4)).map (fun k => if named k stands then 2 ^ k.val else 0)).sum
    let answered (echo : Byte) : State :=
      t.stage p
        { status := if found false = 0 then .ok else .noDemand, echo := echo
          data := packData (u8 (found true) ++ u8 (found false)) }
    let refusal : Option Status :=
      if s.running = false then some .notRunning else if 16 ≤ slots.toNat then some .badArg else none
    (∀ status, refusal = some status →
      exec (.renew p extra slots) s =
        .next (t.stage p { status := status, echo := 0x03#8, data := Vector.replicate 9 0#8 }) ∧
      exec (.drop p extra slots) s =
        .next (t.stage p { status := status, echo := 0x04#8, data := Vector.replicate 9 0#8 })) ∧
    (refusal = none →
      (∃ u : State, exec (.renew p extra slots) s = .next u ∧ u = { answered 0x03#8 with demands := u.demands } ∧
        (∀ k, u.demand (postedIx z k) =
          if named k true then
            { s.demand (postedIx z k) with lease := some (1000000 * (s.demand (postedIx z k)).leaseLength) }
          else s.demand (postedIx z k)) ∧
        ∀ i, (∀ k, i ≠ postedIx z k) → u.demand i = s.demand i) ∧
      ∃ u : State, exec (.drop p extra slots) s = .next u ∧
        u = { answered 0x04#8 with demands := u.demands, age := u.age, regime := u.regime } ∧
        (∀ k, u.demand (postedIx z k) = if named k true then Demand.freeSlot else s.demand (postedIx z k)) ∧
        (∀ i, (∀ k, i ≠ postedIx z k) → u.demand i = s.demand i) ∧
        u.age = s.age.filter (fun i => (u.demand i).stands) ∧
        u.regime =
          { t.regime with
            dormant :=
              if found true ≠ 0 ∧ t.regime.regime = .park ∧ u.tableEmpty = true then
                some (1000000 * s.num .dormantDelay)
              else t.regime.dormant })

/-- A lease that runs out: the slot is FREE and out of the age list, EXPIRED is set on its port, and in PARK the dormant timer starts
if it was the last demand. A lease that does not run, or that a RENEW or a POST has given time again, does not
expire (R14); that its command then changes nothing is the model's choice (log 2). -/
def Obligations.LeaseExpiryFreesItsSlot : Prop :=
  ∀ (z : Zone) (k : Fin 4) (s : State), s.DemandsOk → s.RegimeOk →
    let i := postedIx z k
    let l := s.port (zonePort z)
    let flags := l.flags ||| Notice.expired.mask
    let demands := put s.demands i Demand.freeSlot
    if (s.demand i).lease ≠ some 0 then exec (.leaseExpiry z k) s = .next s
    else
      exec (.leaseExpiry z k) s = .next
        { s with
          demands := demands
          age := s.age.filter (fun j => j != i)
          ports := put s.ports (portIx (zonePort z)) { l with flags := flags, attention := flags &&& l.enables != 0#9 }
          regime :=
            { s.regime with
              dormant :=
                if s.regime.regime = .park ∧ allSlots.all (fun j => j == i || !(s.demand j).stands) = true then
                  some (1000000 * s.num .dormantDelay)
                else none } }

/-! ## The allowance (02) -/

/-- ALLOW: refused in SETUP and on ports M and C; on port B the value and the lease, brought into range, become the pending
allowance, and the allowance in force is not touched. Every reply carries the allowance in force, its source and its lease
remaining. The widths of the reply's fields, the code of the source and the zeros that a refusal gives for value and lease are
the model's reading (logs 11 and 15). -/
def Obligations.AllowSetsThePendingAllowance : Prop :=
  ∀ (p : Port) (extra : Nat) (value : Word) (lease : Byte) (s : State),
    let t := s.frameArrives p extra
    let v := min 1600 value.toNat
    let l := max 1 (min 60 lease.toNat)
    let inForce : Nat :=
      match s.alloc.inForce with
      | .noAllowance => 0
      | .safe => s.num .safeAllow
      | .granted x => x
    let source : Nat :=
      match s.alloc.inForce with
      | .noAllowance => 0
      | .safe => 1
      | .granted _ => 2
    let left : Nat :=
      match s.alloc.allowLease with
      | none => 0
      | some us => max 1 ((us + 999999) / 1000000)
    let data (v l : Nat) : Vector Byte 9 := packData (u16 v ++ u8 l ++ u16 inForce ++ u8 source ++ u8 left)
    exec (.allow p extra value lease) s = .next
      (if s.running = false then
        t.stage p { status := .notRunning, echo := 0x05#8, data := data 0 0 }
      else if p ≠ .B then
        t.stage p { status := .badArg, echo := 0x05#8, data := data 0 0 }
      else
        ({ t with alloc := { s.alloc with pendingAllow := some (v, l) } }).stage p
          { status := if v = value.toNat ∧ l = lease.toNat then .ok else .clamped
            echo := 0x05#8
            data := data v l })

/-- The lease of a granted allowance runs out: SAFE is in force, ALLOWANCE is set on port B, a pending allowance stays. A link timer
runs out: the port is ABSENT with LOST set, and in RUN the absence of port M or B is resolved. Neither happens while its timer
stands anywhere but at 0, as after a fresh lease or a good frame (R46, R169); that the command then changes nothing is the model's
choice (log 2). -/
def Obligations.AllowanceAndLinkExpiriesAct : Prop :=
  ∀ (p : Port) (s : State),
    let flags (q : Port) (n : Notice) : NoticeSet := (s.port q).flags ||| n.mask
    let t := s.setPort p
      { s.port p with
        linkTimer := none, presence := .absent, flags := flags p .lost
        attention := flags p .lost &&& (s.port p).enables != 0#9 }
    exec .allowanceLeaseExpiry s = .next
      (if s.alloc.allowLease = some 0 then
        { s with
          alloc := { s.alloc with inForce := .safe, allowLease := none }
          ports := put s.ports (portIx .B)
            { s.port .B with
              flags := flags .B .allowance, attention := flags .B .allowance &&& (s.port .B).enables != 0#9 } }
      else s) ∧
    exec (.linkTimerExpiry p) s = .next
      (if (s.port p).linkTimer = some 0 then (if s.running = true ∧ p ≠ .C then t.resolve else t) else s)

/-! ## The allocation cycle (02) -/

/-- The four pools and the compressor draw of a cycle, from the temperatures, the parameters and the allowance. -/
def Obligations.PoolsFollowTheirFormulas : Prop :=
  ∀ s : State,
    let g := s.grantSet
    let tmOut := s.tempValue .tmOut
    let tbOut := s.tempValue .tbOut
    let ta := s.tempValue .ta
    let tr := s.tempValue .tr
    let n (q : Param) : Int := s.num q
    (g.scavPool : Int) =
      (if g.avail.scav && s.usable .tmOut && s.usable .tbOut then
        min (n .scavMax) ((n .scavK * max 0 (tmOut - tbOut)).tdiv 100)
      else 0) ∧
    (g.radPool : Int) =
      (if g.avail.radB then
        (if s.usable .tmOut && s.usable .tbOut && s.usable .ta then
          min (n .radMax) ((n .radK * max 0 (max tmOut tbOut - ta)).tdiv 100)
        else 0)
      else if g.avail.radM then
        (if s.usable .tmOut && s.usable .ta then min (n .radMax) ((n .radK * max 0 (tmOut - ta)).tdiv 100) else 0)
      else 0) ∧
    (g.compPool : Int) =
      min
        (if s.usable .tr = false then 0
        else if s.int .trCutoff ≤ tr then 0
        else if tr ≤ s.int .trDerate then n .compMax
        else (n .compMax * (s.int .trCutoff - tr)).tdiv (s.int .trCutoff - s.int .trDerate))
        (((g.allowance : Int) * n .cop).tdiv 8) ∧
    (g.ptcPool : Int) = min (n .ptcMax) ((g.allowance : Int) - g.compDraw) ∧
    (g.compDraw : Int) = ((g.compTotal : Int) * 8 + n .cop - 1).tdiv (n .cop) ∧
    g.allowance =
      (match s.alloc.inForce with
      | .noAllowance => 0
      | .safe => s.num .safeAllow
      | .granted v => v)

/-- Sharing one pool: nothing is lost or made, no claim gets more than it wants, a pool is left over only when every claim is met,
and no tier receives anything while a higher one still wants. In the highest tier that wants anything each claim gets at least its
share by weight of the first pass; and where every such share is 0, the hu are dealt one each along the age list, oldest first. The
law of a pass, in every tier and for whatever is left of a pool: with some share above 0 every claim of the tier gets its share and
the tier goes on with what is left; otherwise the claims get one hu each along the age list while the pool lasts, and it goes on with
what is left of that; with nothing left, or nothing wanted, the tier is finished, and the next one shares what it leaves. -/
def Obligations.SharingServesHigherTiersFirst : Prop :=
  ∀ (age : List (Fin 15)) (pool : Nat) (claims : List Claim),
    age.Nodup → (claims.map Claim.ix).Nodup → (∀ c ∈ claims, c.ix ∈ age) → (∀ c ∈ claims, c.got = 0) →
    let r := sharePool age pool claims
    let top (c : Claim) : Bool := claims.all (fun d => d.want == 0 || decide (c.tier.rank ≤ d.tier.rank))
    let members (t : Tier) : List Claim := claims.filter (fun d => d.tier == t && decide (0 < d.want))
    let weights (t : Tier) : Nat := ((members t).map Claim.weight).sum
    let order (t : Tier) : List (Fin 15) := age.filter (fun i => (members t).any (fun d => d.ix == i))
    r.1 + (r.2.map Claim.got).sum = pool ∧
    List.Forall₂ (fun c d => d.ix = c.ix ∧ d.tier = c.tier ∧ d.weight = c.weight ∧ d.want + d.got = c.want) claims r.2 ∧
    (0 < r.1 → ∀ c ∈ r.2, c.want = 0) ∧
    (∀ c ∈ r.2, ∀ d ∈ r.2, c.tier.rank < d.tier.rank → 0 < d.got → c.want = 0) ∧
    List.Forall₂
      (fun c d => top c = true → 0 < c.want →
        min c.want (pool * c.weight / weights c.tier) ≤ d.got ∧
        ((∀ e ∈ members c.tier, pool * e.weight < weights c.tier) → pool ≤ (members c.tier).length →
          d.got = if (order c.tier).idxOf c.ix < pool then 1 else 0))
      claims r.2 ∧
    r = shareTier .comfort age (shareTier .drive age (shareTier .charge age (shareTier .protect age (pool, claims)))) ∧
    ∀ (t : Tier) (left : Nat) (now : List Claim), now.map Claim.ix = claims.map Claim.ix →
      let wants (c : Claim) : Bool := c.tier == t && decide (0 < c.want)
      let sum (f : Claim → Nat) : Nat := ((now.filter wants).map f).sum
      let share (c : Claim) : Nat := min c.want (left * c.weight / sum Claim.weight)
      let place (c : Claim) : Nat := (age.filter (fun i => (now.filter wants).any (fun d => d.ix == i))).idxOf c.ix
      let passed (gain : Claim → Nat) : List Claim :=
        now.map (fun c => if wants c then { c with want := c.want - gain c, got := c.got + gain c } else c)
      shareTier t age (left, now) =
        if left = 0 ∨ now.filter wants = [] then (left, now)
        else if 0 < sum share then shareTier t age (left - sum share, passed share)
        else
          shareTier t age
            (left - (now.filter wants).length, passed (fun c => if place c < left then 1 else 0))

/-- The entries of a cycle's grant set are the shares of its pools. SCAV, SCAV credit, RAD, COMP and PTC are shared in this order; at
each, the standing demands of the services that it serves over an open path claim what they still lack, a held demand claims
nothing, and each has its effective weight; and COMP grants that come to less than COMP_MIN are revoked before PTC is shared. -/
def Obligations.GrantsAreTheSharesOfEachPool : Prop :=
  ∀ s : State,
    let g := s.grantSet
    let asks (e : GrantEntry) (z : Zone) (x : Sense) : Bool := zoneOfIx e.ix == z && (s.demand e.ix).sense == x
    let share (pool : Nat) (serves : GrantEntry → Bool) (before : GrantEntry → Nat) : List Nat :=
      (sharePool s.age pool (g.entries.map fun e =>
        { ix := e.ix, tier := (s.demand e.ix).tier
          weight := min 15 ((s.demand e.ix).weight + min 14 (s.demand e.ix).starveCount)
          want := if serves e && !e.held then (s.demand e.ix).asked - before e else 0
          got := 0 })).2.map Claim.got
    let comp := share g.compPool (fun e => zoneOfIx e.ix != .motor) (fun e => e.scav + e.rad)
    let revoked : Prop := 0 < comp.sum ∧ comp.sum < s.num .compMin
    g.entries.map (fun e => if asks e .battery .heat then e.scav else 0) =
      share g.scavPool (fun e => g.avail.scav && asks e .battery .heat) (fun _ => 0) ∧
    g.entries.map (fun e => if asks e .motor .cool then e.scav else 0) =
      share g.scavTotal (fun e => asks e .motor .cool) (fun _ => 0) ∧
    (∀ e ∈ g.entries, asks e .battery .heat = false → asks e .motor .cool = false → e.scav = 0) ∧
    g.entries.map GrantEntry.rad =
      share g.radPool (fun e => g.avail.radM && asks e .motor .cool || g.avail.radB && asks e .battery .cool)
        (fun e => e.scav) ∧
    g.entries.map GrantEntry.comp = (if revoked then g.entries.map (fun _ => 0) else comp) ∧
    g.compTotal = (if revoked then 0 else comp.sum) ∧ g.revoked = (if revoked then comp.sum else 0) ∧
    g.entries.map GrantEntry.ptc =
      share g.ptcPool (fun e => asks e .battery .heat || asks e .cabin .heat) (fun e => e.scav + e.rad + e.comp) ∧
    g.scavTotal = ((g.entries.filter (fun e => zoneOfIx e.ix == .battery)).map GrantEntry.scav).sum ∧
    g.creditTotal = ((g.entries.filter (fun e => zoneOfIx e.ix == .motor)).map GrantEntry.scav).sum ∧
    g.radTotal = (g.entries.map GrantEntry.rad).sum ∧ g.ptcTotal = (g.entries.map GrantEntry.ptc).sum

/-- Every cycle's grants: within each pool, within what each demand asked, within the allowance, nothing for a held demand, and a
compressor total of 0 or at least COMP_MIN. -/
def Obligations.GrantsStayWithinTheirBounds : Prop :=
  ∀ s : State,
    let g := s.grantSet
    g.Ok ∧
    g.entries.map GrantEntry.ix = allSlots.filter (fun i => (s.demand i).stands) ∧
    (∀ e ∈ g.entries, e.total ≤ (s.demand e.ix).asked) ∧
    (∀ e ∈ g.entries, e.held =
      ((match (s.demand e.ix).tier with
        | .protect => false
        | .charge => s.regime.regime != .charge
        | .drive => s.regime.regime != .drive
        | .comfort => s.shed) ||
        (e.ix != gIx (zoneOfIx e.ix) && (s.demand (gIx (zoneOfIx e.ix))).stands &&
          (s.demand (gIx (zoneOfIx e.ix))).sense != (s.demand e.ix).sense))) ∧
    (g.compTotal = 0 ∨ s.num .compMin ≤ g.compTotal) ∧
    (0 < g.revoked → g.revoked < s.num .compMin)

/-- No zone receives grants of both senses in one cycle. -/
def Obligations.ZonesReceiveOneSense : Prop :=
  ∀ s : State, s.DemandsOk → ∀ e ∈ s.grantSet.entries, ∀ f ∈ s.grantSet.entries,
    zoneOfIx e.ix = zoneOfIx f.ix → 0 < e.total → 0 < f.total → (s.demand e.ix).sense = (s.demand f.ix).sense

/-- A cycle expiry: the timer begins the period its regime calls for, a pending allowance comes into force, the new grant set is
published and the one before it kept; temperatures, flows, parameters, setup state, reset record and inputs stay. Of the ports only
notice flags with the line, the cursor and its mark change; posted demands keep their order in the age list; CABIN's conditions and
guard stay. Last comes what SHORT brings, MOTOR before BATTERY (the model's choice, log 25): up to there (`u`) the age list, the
regime and its timers, conditions, guards and SHED are as they were, and no flag but STARVE, SHORTFALL and MODE has changed; and where
no condition changes, that is what the expiry leaves. A period begun in DORMANT is 10 s whatever wake follows: by R22, R49, R80 and
R82 against R144's last sentence, the model's choice (log 26, DESIGN CHOICE). With the timer stopped, or with time left on it, nothing
happens (the model's choice, log 2). -/
def Obligations.CycleExpiryPublishesAGrantSet : Prop :=
  ∀ s : State,
    let period : Nat :=
      match s.regime.regime with
      | .drive | .priming | .charge => 1000 * s.num .cycleRun
      | .dormant => 10000000
      | .park | .noRegime => 1000 * s.num .cyclePark
    if s.alloc.cycleLeft ≠ some 0 then exec .cycleExpiry s = .next s
    else
      ∃ t u : State, exec .cycleExpiry s = .next t ∧
        t.alloc =
          { cycleLength := period, cycleLeft := some period, seq := s.alloc.seq + 1
            inForce := s.settled.alloc.inForce, allowLease := s.settled.alloc.allowLease, pendingAllow := none
            published := some s.cycleGrants, previous := s.alloc.published } ∧
        s.cycleGrants.seq = s.alloc.seq + 1 ∧ s.cycleGrants.regime = s.regime.regime ∧
        s.cycleGrants.avail = s.valve.availability ∧
        t = { s with
          ports := t.ports, demands := t.demands, age := t.age, alloc := t.alloc, valve := t.valve, regime := t.regime,
          delivered := t.delivered, zones := t.zones, shed := t.shed, pwm := t.pwm, ring := t.ring } ∧
        (∀ p, t.port p =
          { s.port p with
            flags := (t.port p).flags, attention := (t.port p).attention, cursor := (t.port p).cursor
            overrun := (t.port p).overrun }) ∧
        t.age.filter (fun i => i != gIx (zoneOfIx i)) = s.age.filter (fun i => i != gIx (zoneOfIx i)) ∧
        t.zone .cabin = s.zone .cabin ∧
        t = (u.withConditions .motor (t.zone .motor).cond).withConditions .battery (t.zone .battery).cond ∧
        u = { s with
          ports := u.ports, demands := u.demands, alloc := t.alloc, valve := t.valve, delivered := t.delivered, pwm := t.pwm,
          ring := t.ring } ∧
        (∀ p k, k ≠ 2 → k ≠ 4 → k ≠ 5 → (u.port p).flags.getLsbD k = (s.port p).flags.getLsbD k) ∧
        (s.PortsOk → ∀ p, (u.port p).attention = ((u.port p).flags &&& (u.port p).enables != 0#9)) ∧
        ((∀ z, (t.zone z).cond = (s.zone z).cond) → t = u)

/-- A cycle expiry writes every standing demand back: HELD, SERVED, PARTIAL or STARVED by its grant, with the starve count and mark
that go with it, and STARVE on its zone's port when the mark is set. A slot G is left out where its own guard acts in the
publication, and no posted slot comes or goes. -/
def Obligations.CycleExpiryWritesDemandsBack : Prop :=
  ∀ s : State, s.alloc.cycleLeft = some 0 → ∃ t : State, exec .cycleExpiry s = .next t ∧
    let after (e : GrantEntry) (d : Demand) : Demand :=
      if e.held = true then { d with state := .held, granted := 0 }
      else if e.total = d.asked then { d with state := .served, granted := e.total, starveCount := 0, starveMark := false }
      else if 0 < e.total then { d with state := .partly, granted := e.total, starveCount := 0, starveMark := false }
      else
        { d with
          state := .starved, granted := 0, starveCount := min 255 (d.starveCount + 1)
          starveMark := d.starveMark || decide (s.num .starveLimit ≤ min 255 (d.starveCount + 1)) }
    let untouched (i : Fin 15) : Prop := i = gIx (zoneOfIx i) → (t.zone (zoneOfIx i)).guard = (s.zone (zoneOfIx i)).guard
    (∀ e ∈ s.cycleGrants.entries, untouched e.ix → t.demand e.ix = after e (s.demand e.ix)) ∧
    (∀ i, (s.demand i).stands = false → untouched i → t.demand i = s.demand i) ∧
    ∀ p, (t.port p).flags.getLsbD 2 =
      ((s.port p).flags.getLsbD 2 ||
        s.cycleGrants.entries.any (fun e =>
          zonePort (zoneOfIx e.ix) == p && !(s.demand e.ix).starveMark && (after e (s.demand e.ix)).starveMark))

/-- A cycle expiry gives every channel its target from the new grant set and, outside DORMANT, moves its setpoint toward it by at
most the slew and hands it on as the pending duty, unless a force stands. -/
def Obligations.CycleExpiryMovesTheOutputs : Prop :=
  ∀ s : State, s.alloc.cycleLeft = some 0 → ∃ t : State, exec .cycleExpiry s = .next t ∧
    let g := s.cycleGrants
    let floorM : Nat := match g.regime with
      | .drive | .priming | .charge => s.num (.pumpMin .motor)
      | .park | .dormant | .noRegime => 0
    let floorB : Nat := match g.regime with
      | .drive => s.num (.pumpMin .battery)
      | .priming | .charge => max (s.num (.pumpMin .battery)) (s.num .pumpChargeMin)
      | .park | .dormant | .noRegime => 0
    let heater (grant : Nat) : Nat := if s.num .ptcMax = 0 then 0 else 1000 * grant / s.num .ptcMax
    let target : PwmCh → Nat
      | .pumpM => max floorM (mapDuty (s.mapPoints (.pumpMap .motor)) (g.loopTotal.get (zoneIx .motor)))
      | .pumpB => max floorB (mapDuty (s.mapPoints (.pumpMap .battery)) (g.loopTotal.get (zoneIx .battery)))
      | .fan => if g.avail.scav then s.num .fanMin else max (s.num .fanMin) (mapDuty (s.mapPoints .fanMap) g.radTotal)
      | .comp => mapDuty (s.mapPoints .compMap) g.compTotal
      | .heatC => heater g.heatCabin
      | .heatB => heater g.heatBattery
    ∀ c, let sp := (t.out c).setpoint
      t.out c =
        { s.out c with
          target := target c, setpoint := sp
          pendingDuty :=
            if g.regime = .dormant ∨ (s.out c).force ≠ none then (s.out c).pendingDuty else some sp } ∧
      (g.regime = .dormant → sp = (s.out c).setpoint) ∧
      (g.regime ≠ .dormant →
        (sp = target c ∧ (sp : Int) - (s.out c).setpoint ≤ s.num (slewParam c) ∧
            ((s.out c).setpoint : Int) - sp ≤ s.num (slewParam c)) ∨
          (sp = (s.out c).setpoint + s.num (slewParam c) ∧ sp < target c) ∨
          (sp + s.num (slewParam c) = (s.out c).setpoint ∧ target c < sp))

/-- A cycle expiry in which the valve is SETTLED moves it toward the candidate mode if that differs from its mode and the dwell has
run out or the protect bypass applies; no other cycle expiry touches the valve. -/
def Obligations.CycleExpirySelectsTheMode : Prop :=
  ∀ s : State, s.alloc.cycleLeft = some 0 → ∃ t : State, exec .cycleExpiry s = .next t ∧
    let moves := s.valve.state == .settled && s.candidate != s.valve.toMode &&
      (s.valve.dwell == none || s.bypass s.candidate)
    t.valve =
      (if moves then
        { state := .travel, fromMode := s.valve.toMode, toMode := s.candidate, attempt := 1, dwell := none
          travel := some (1000000 * s.num .travelMax), release := !s.valveAt, driveCode := modeCode s.candidate }
      else s.valve) ∧
    ∀ p, (t.port p).flags.getLsbD 5 = ((s.port p).flags.getLsbD 5 || moves)

/-- The paths that a valve opens, and the protect bypass. A SETTLED valve opens its mode's row, any other what both its end modes
open. The bypass toward a candidate applies when a PROTECT demand, posted demands opposed by their zone's G left out, has its
path open in the candidate and not in the settled mode. -/
def Obligations.PathsAndBypassFollowTheModes : Prop :=
  (∀ v : Valve,
    let opens (path : Mode → Bool) : Bool :=
      if v.state = .settled then path v.toMode else path v.fromMode && path v.toMode
    v.availability =
      { radM := opens (fun m => m != .scavenge), radB := opens (fun m => m == .series)
        scav := opens (fun m => m == .scavenge) }) ∧
  ∀ (s : State) (c : Mode),
    let service (i : Fin 15) (z : Zone) (x : Sense) : Prop := zoneOfIx i = z ∧ (s.demand i).sense = x
    let opposed (i : Fin 15) : Prop :=
      (∃ z k, i = postedIx z k) ∧ (s.demand (gIx (zoneOfIx i))).stands = true ∧
        (s.demand (gIx (zoneOfIx i))).sense ≠ (s.demand i).sense
    s.bypass c = true ↔
      ∃ i, (s.demand i).stands = true ∧ (s.demand i).tier = .protect ∧ ¬ opposed i ∧
        (service i .motor .cool ∧ c ≠ .scavenge ∧ s.valve.toMode = .scavenge ∨
          service i .battery .cool ∧ c = .series ∧ s.valve.toMode ≠ .series ∨
          service i .battery .heat ∧ c = .scavenge ∧ s.valve.toMode ≠ .scavenge)

/-- The candidate mode, the first that applies. -/
def Obligations.CandidateModeFollowsTheBattery : Prop :=
  ∀ s : State,
    let tm := s.tempValue .tmOut
    let tb := s.tempValue .tbOut
    let ta := s.tempValue .ta
    let stands (z : Zone) (x : Sense) : Prop := ∃ k, (s.demand (postedIx z k)).stands = true ∧ (s.demand (postedIx z k)).sense = x
    let g := s.demand (gIx .battery)
    let wants (x : Sense) : Prop := if g.stands = true then g.sense = x else stands .battery x
    let protectsMotor : Prop := ∃ i, (s.demand i).stands = true ∧ zoneOfIx i = .motor ∧ (s.demand i).sense = .cool ∧
      (s.demand i).tier = .protect
    s.DemandsOk →
    (s.candidate = .series ↔
      wants .cool ∧ s.usable .tbOut = true ∧ s.usable .ta = true ∧ s.usable .tmOut = true ∧
        ta + s.num .seriesMargin ≤ tb ∧ tm ≤ tb + s.num .seriesSpread) ∧
    (s.candidate = .scavenge ↔
      wants .heat ∧ s.usable .tmOut = true ∧ s.usable .tbOut = true ∧ tb + s.num .scavMargin ≤ tm ∧
        0 < s.num .scavK ∧ ¬ protectsMotor)

/-- A cycle expiry appends one snapshot, with the valve as the publication found it; a full ring drops its oldest record, and a cursor
on that record moves on with its overrun mark set. -/
def Obligations.CycleExpiryAppendsASnapshot : Prop :=
  ∀ s : State, s.alloc.cycleLeft = some 0 → ∃ t : State, exec .cycleExpiry s = .next t ∧
    let g := s.cycleGrants
    let x : Snapshot :=
      { seq := g.seq, regime := s.regime.regime, valveState := s.valve.state, toMode := s.valve.toMode,
        compTotal := g.compTotal, radTotal := g.radTotal, ptcTotal := g.ptcTotal, scavTotal := g.scavTotal }
    let full := decide (32 ≤ s.ring.records.length)
    t.ring =
      { records := (if full then s.ring.records.tail else s.ring.records) ++ [x], appended := s.ring.appended + 1 } ∧
    ∀ p,
      let hit := full && (s.port p).cursor == s.ring.appended + 1 - s.ring.records.length
      (t.port p).cursor = (if hit then (s.port p).cursor + 1 else (s.port p).cursor) ∧
      (t.port p).overrun = ((s.port p).overrun || hit)

/-- A cycle expiry computes the delivered heat of each liquid loop, judges it against the grant set before, sets or clears SHORT by
the counter, and raises SHORTFALL when SHORT is set. -/
def Obligations.CycleExpiryJudgesDeliveredHeat : Prop :=
  ∀ s : State, s.alloc.cycleLeft = some 0 → ∃ t : State, exec .cycleExpiry s = .next t ∧ ∀ l : Loop,
    let z := loopZone l
    let measured := s.usable (loopOut l) && s.usable (loopIn l)
    let q : Int := ((s.flow l).flow * (s.num (.cpv l)) * (s.tempValue (loopOut l) - s.tempValue (loopIn l))).tdiv 10000
    let clamped : Int := max (-60000) (min 60000 q)
    let delivered : Int := if measured then clamped.tdiv 50 else 0
    let before : Nat := match s.alloc.published with
      | some g => g.loopTotal.get (zoneIx z)
      | none => 0
    let heats : Bool := match s.alloc.published with
      | some g => g.loopSense.get (zoneIx z) == some .heat
      | none => false
    let falls := decide (0 < before) && s.valve.state == .settled && (s.flow l).tag != .stall &&
      decide ((if heats then -delivered else delivered) < ((before * s.num (.shortPct l) / 100 : Nat) : Int))
    let old := s.record l
    let count : Nat := if measured = false then old.shortfall else if falls then min 255 (old.shortfall + 1) else 0
    let short : Bool :=
      if measured = false then (s.zone z).cond.short
      else if falls then (s.zone z).cond.short || decide (s.num (.shortCycles l) ≤ count)
      else false
    t.record l =
      { delivered := delivered, measured := measured, saturated := measured && decide (clamped ≠ q), shortfall := count } ∧
    (t.zone z).cond = { (s.zone z).cond with short := short } ∧
    (t.port (zonePort z)).flags.getLsbD 4 =
      ((s.port (zonePort z)).flags.getLsbD 4 || (short && !(s.zone z).cond.short))

/-! ## The mode valve (03) -/

/-- VALVE_AT becomes asserted: an arrival in TRAVEL with the release mark set, and nothing but the level otherwise. VALVE_AT
becomes deasserted: a loss of arrival while SETTLED, the release mark in TRAVEL, and nothing but the level in RETRY_WAIT and
LOCKED. A loss of arrival leaves the availability as it was. An edge acts whatever level the input held (the model's choice,
log 7). -/
def Obligations.ValveAtArrivesAndLosesArrival : Prop :=
  ∀ s : State, s.ValveOk →
    let up := { s with valveAt := true }
    let down := { s with valveAt := false }
    let arrived : Valve :=
      { state := .settled, fromMode := s.valve.toMode, toMode := s.valve.toMode, attempt := 0,
        dwell := some (1000000 * s.num .dwell), travel := none, release := true, driveCode := modeCode s.valve.toMode }
    let lost : Valve :=
      { state := .travel, fromMode := s.valve.toMode, toMode := s.valve.toMode, attempt := 1, dwell := none,
        travel := some (1000000 * s.num .travelMax), release := true, driveCode := modeCode s.valve.toMode }
    exec .valveAtAsserted s = .next
      (if s.valve.state = .travel ∧ s.valve.release = true then { up with valve := arrived }.notifyAll .mode else up) ∧
    exec .valveAtDeasserted s = .next
      (match s.valve.state with
      | .settled => { down with valve := lost }.notifyAll .mode
      | .travel => { down with valve := { s.valve with release := true } }
      | .retryWait => down
      | .locked => down) ∧
    (s.valve.state = .settled → lost.availability = s.valve.availability ∧ lost.driveCode = s.valve.driveCode)

/-- The valve's timers. The travel timer runs out in TRAVEL: RETRY_WAIT after attempts 1 and 2, LOCKED with MODE on every port after
attempt 3, the availability as before. In RETRY_WAIT: TRAVEL with the same modes and the attempt one higher, the release mark by R62,
and an arrival at once where VALVE_AT is asserted and the mark is set. The dwell runs out: the timer stops, and nothing else happens.
Outside the states named, and with time left, a command does nothing (the model's choice, log 2). -/
def Obligations.ValveTimersDriveTheAttempts : Prop :=
  ∀ s : State, s.ValveOk →
    let waiting : Valve :=
      { s.valve with state := .retryWait, travel := some (1000000 * s.num .retryDelay), driveCode := 3 }
    let locked : Valve := { s.valve with state := .locked, travel := none, driveCode := 3 }
    let released := s.valve.fromMode == s.valve.toMode || !s.valveAt
    let again : Valve :=
      { s.valve with
        state := .travel, attempt := s.valve.attempt + 1, dwell := none, travel := some (1000000 * s.num .travelMax),
        release := released, driveCode := modeCode s.valve.toMode }
    let arrived : Valve :=
      { again with
        state := .settled, fromMode := s.valve.toMode, attempt := 0, travel := none,
        dwell := some (1000000 * s.num .dwell) }
    exec .travelTimeout s = .next
      (if ¬ (s.valve.state = .travel ∧ s.valve.travel = some 0) then s
      else if s.valve.attempt < 3 then { s with valve := waiting }
      else { s with valve := locked }.notifyAll .mode) ∧
    (s.valve.state = .travel → waiting.availability = s.valve.availability ∧ locked.availability = s.valve.availability) ∧
    exec .retryAttempt s = .next
      (if ¬ (s.valve.state = .retryWait ∧ s.valve.travel = some 0) then s
      else if released = true ∧ s.valveAt = true then { s with valve := arrived }.notifyAll .mode
      else { s with valve := again }) ∧
    exec .dwellExpiry s = .next
      (if s.valve.dwell = some 0 then { s with valve := { s.valve with dwell := none } } else s)

/-- CLEARVALVE: in LOCKED a fresh travel at attempt 1 with MODE on every port, and the arrival at once where it applies;
refused NOT_NOW otherwise; the reply carries the VALVE object as it then stands. The widths of the object's fields are the
model's reading (log 15). -/
def Obligations.ClearvalveUnlocks : Prop :=
  ∀ (p : Port) (extra : Nat) (s : State),
    let t := s.frameArrives p extra
    let released := s.valve.fromMode == s.valve.toMode || !s.valveAt
    let again : Valve :=
      { s.valve with
        state := .travel, attempt := 1, dwell := none, travel := some (1000000 * s.num .travelMax)
        release := released, driveCode := modeCode s.valve.toMode }
    let arrived : Valve :=
      { again with
        state := .settled, fromMode := s.valve.toMode, attempt := 0, travel := none
        dwell := some (1000000 * s.num .dwell) }
    let rest (v : Valve) : Nat :=
      match v.dwell with
      | none => 0
      | some us => max 1 ((us + 999999) / 1000000)
    let object (v : Valve) : Vector Byte 9 :=
      packData (u8 v.state.code ++ u8 v.fromMode.code ++ u8 v.toMode.code ++ u8 v.attempt ++ u16 (rest v))
    exec (.clearvalve p extra) s = .next
      (if s.valve.state ≠ .locked then
        t.stage p { status := .notNow, echo := 0x0C#8, data := object s.valve }
      else
        let v := if released = true ∧ s.valveAt = true then arrived else again
        ({ t with valve := v }.notifyAll .mode).stage p { status := .ok, echo := 0x0C#8, data := object v })

/-! ## Regimes and presence (04, 10) -/

/-- VOTE: port M votes PARK or DRIVE, port B NONE or CHARGE, anything else is refused; a changed vote in RUN is resolved at
once; the reply carries the REGIME object as it then stands. The codes of presence and of charge-pending in the object are the
model's reading (log 11). -/
def Obligations.VoteIsTakenAndResolved : Prop :=
  ∀ (p : Port) (extra : Nat) (v : Byte) (s : State), s.RegimeOk →
    let t := s.frameArrives p extra
    let taken : Bool := p != .C && decide (v.toNat ≤ 1)
    let voted : RegimeCtl :=
      if p = .M then { t.regime with voteM := if v.toNat = 0 then .park else .drive }
      else { t.regime with voteB := if v.toNat = 0 then .noCharge else .charge }
    let u : State :=
      if taken then (if s.running then { t with regime := voted }.resolve else { t with regime := voted }) else t
    exec (.vote p extra v) s = .next
      (u.stage p
        { status := if taken then .ok else .badArg, echo := 0x06#8
          data := packData
            (u8 u.regime.regime.code ++ u8 u.regime.voteM.code ++ u8 u.regime.voteB.code ++
              u8 (u.port .M).presence.code ++ u8 (u.port .B).presence.code ++ u8 (u.port .C).presence.code ++
              u8 (if u.regime.chargePending then 1 else 0)) })

/-- A resolution takes the first row that applies: PRIMING or CHARGE while the charge condition holds, else DRIVE by port M's
effective vote, else PARK; DORMANT is kept; charge-pending is set exactly when the charge fails for want of HV_READY; and only a
change of regime sets REGIME, on every port. -/
def Obligations.ResolutionTakesTheFirstRow : Prop :=
  ∀ s : State,
    let charge := s.regime.voteB == .charge && (s.port .B).presence == .present
    let drive := s.regime.voteM == .drive && (s.port .M).presence == .present
    let r := s.regime.regime
    let result : Regime :=
      if r = .dormant then .dormant
      else if charge && s.hvReady then (if r = .charge then .charge else .priming)
      else if drive then .drive
      else .park
    let t := s.resolve
    t.regime.regime = result ∧ t.regime.chargePending = (charge && !s.hvReady) ∧
    (result = r → t = { s with regime := { s.regime with chargePending := t.regime.chargePending } }) ∧
    (result ≠ r →
      t = { s with
        regime :=
          { s.regime with
            regime := result, chargePending := charge && !s.hvReady
            prime := if result = Regime.priming then some (1000000 * s.num .primeTime) else none
            dormant := if result = Regime.park ∧ s.tableEmpty = true then some (1000000 * s.num .dormantDelay) else none }
        }.notifyAll .regime)

/-- HV_READY rises: DORMANT ends in PARK and a resolution runs, with PRIMING at once where port B votes CHARGE; in any other
regime of RUN a resolution runs. HV_READY falls: in RUN a resolution runs, which leaves DORMANT as it is. In SETUP only the
level changes. An edge acts whatever level the input held, and a wake leaves the cycle period in progress even where it has just
begun (the model's choices, logs 7 and 26). -/
def Obligations.HvReadyEdgesResolve : Prop :=
  ∀ s : State, s.RegimeOk →
    let up := { s with hvReady := true }
    let down := { s with hvReady := false }
    let parked : State :=
      { up with
        regime :=
          { s.regime with regime := .park, prime := none, dormant := some (1000000 * s.num .dormantDelay) } }.notifyAll .regime
    exec .hvReadyRise s = .next
      (if s.running = false then up else if s.regime.regime = .dormant then parked.resolve else up.resolve) ∧
    exec .hvReadyFall s = .next (if s.running = false then down else down.resolve) ∧
    (s.regime.regime = .dormant → down.resolve.regime.regime = .dormant)

/-- The regime timers. The prime timer runs out: PRIMING becomes CHARGE, the timer stops and REGIME is set on every port. The dormant
timer runs out: the regime becomes DORMANT, REGIME is set on every port, and all six duties go to 0 at once with any pending duty
discarded and the targets kept. A command whose timer is stopped or has time left does nothing (the model's choice, log 2). -/
def Obligations.RegimeTimersEnterChargeAndDormant : Prop :=
  ∀ s : State, s.RegimeOk →
    let asleep (c : PwmChannel) : PwmChannel := { c with setpoint := 0, applied := 0, pendingDuty := none }
    exec .primeTimerExpiry s = .next
      (if s.regime.prime ≠ some 0 then s
      else { s with regime := { s.regime with regime := .charge, prime := none, dormant := none } }.notifyAll .regime) ∧
    (s.regime.dormant ≠ some 0 → exec .dormantTimerExpiry s = .next s) ∧
    (s.regime.dormant = some 0 → ∃ t : State, exec .dormantTimerExpiry s = .next t ∧
      (∀ c, t.out c = asleep (s.out c)) ∧
      t = { { s with regime := { s.regime with regime := .dormant, prime := none, dormant := none } }.notifyAll .regime with
            pwm := t.pwm })

/-! ## Temperatures (05) and zone conditions (06) -/

/-- A conversion: a short or an open and a good code move the channel by its tag, the filter moves by the nearest fraction of the
distance, and a channel that is a zone's temperature has HIGH, LOW and BLIND of that zone judged after it, with the guard evaluated
on a change (GuardsTripAndReturn). The reading is the linear map between the table's points, clamped to its ends. -/
def Obligations.ConversionMovesItsChannel : Prop :=
  ∀ (ch : TempCh) (code : BitVec 12) (s : State),
    let old := s.temp ch
    let n : Int := code.toNat
    let x (i : Fin 8) : Int := (s.param (.convPt i)).value
    let y (i : Fin 8) : Int := (s.param (.convPt i)).second
    let ready : Prop := (∀ i, (s.param (.convPt i)).written = true) ∧ (∀ i j, i < j → x i < x j) ∧
      ((∀ i j, i < j → y i < y j) ∨ ∀ i j, i < j → y j < y i)
    let m := mapCode s.convPoints n
    let k := s.num .filterK
    let filtered (r : Int) : Int :=
      if k = 0 then r else old.filtered + (r - old.filtered).sign * (((r - old.filtered).natAbs + 2 ^ (k - 1)) / 2 ^ k : Nat)
    let started : TempChannel :=
      { raw := code, lastReading := m.1, filtered := m.1, tag := m.2, hold := none, recover := 0 }
    let new : TempChannel :=
      if code.toNat ≤ 16 ∨ 4080 ≤ code.toNat then
        match old.tag with
        | .init => { old with raw := code }
        | .good | .clampedLow | .clampedHigh =>
          { old with raw := code, tag := .stale, hold := some (500000 * s.num .holdTime), recover := 0 }
        | .stale | .blind => { old with raw := code, recover := 0 }
      else if s.tableReady then
        match old.tag with
        | .init => started
        | .good | .clampedLow | .clampedHigh =>
          { old with raw := code, lastReading := m.1, filtered := filtered m.1, tag := m.2 }
        | .stale | .blind =>
          if s.num .recoverCount ≤ old.recover + 1 then started
          else { old with raw := code, lastReading := m.1, recover := old.recover + 1 }
      else { old with raw := code }
    let usable : Bool := new.tag != .blind && new.tag != .init
    let judged (z : Zone) : Conditions :=
      let c := (s.zone z).cond
      let v := new.filtered
      { c with
        high :=
          if usable = true ∧ (s.param (.high z)).written = true then
            decide ((if c.high then s.int (.high z) - s.int (.hyst z) else s.int (.high z)) < v)
          else c.high
        low :=
          if usable = true ∧ (s.param (.low z)).written = true then
            decide (v < (if c.low then s.int (.low z) + s.int (.hyst z) else s.int (.low z)))
          else c.low
        blind := !usable }
    exec (.conversion ch code) s = .next
      (match tempZone ch with
      | some z => (s.setTemp ch new).withConditions z (judged z)
      | none => s.setTemp ch new) ∧
    (s.tableReady = true ↔ ready) ∧
    (ready →
      (n < x 0 → m = (y 0, if y 0 < y 7 then .clampedLow else .clampedHigh)) ∧
      (x 7 < n → m = (y 7, if y 7 < y 0 then .clampedLow else .clampedHigh)) ∧
      (n = x 7 → m = (y 7, .good)) ∧
      ∀ i j : Fin 8, i.val + 1 = j.val → x i ≤ n → n < x j →
        m = (y i + ((y j - y i) * (n - x i)).tdiv (x j - x i), .good))

/-- A hold timer that runs out makes its channel BLIND, and its zone too; a stall timer that runs out returns its flow channel to its
reset state and sets its zone's STALL. With the timer stopped, or with time left
on it, nothing happens (the model's choice, log 2). -/
def Obligations.HoldAndStallExpiriesGiveUp : Prop :=
  ∀ (ch : TempCh) (l : Loop) (s : State), s.SensingOk →
    let blinded := s.setTemp ch { s.temp ch with tag := .blind, hold := none }
    let stalled := s.setFlow l { reference := none, accumulator := 0, periods := 0, flow := 0, tag := .stall, stall := none }
    let z := loopZone l
    exec (.holdExpiry ch) s = .next
      (if (s.temp ch).hold ≠ some 0 then s
      else
        match tempZone ch with
        | some z => blinded.withConditions z { (s.zone z).cond with blind := true }
        | none => blinded) ∧
    exec (.stallExpiry l) s = .next
      (if (s.flow l).stall ≠ some 0 then s
      else if (s.flow l).tag = .stall then stalled
      else stalled.withConditions z { (s.zone z).cond with stall := true })

/-- A rising edge on a flow input: the first only sets the reference; another adds its period, at most 2 s, to the accumulator, and the
edge that completes an average of AVG periods gives the flow, with K_FLOW written, and clears STALL. Every edge taken restarts the
stall timer. The edge is stamped with the part's time base, whatever label the sender gives it (the model's choice, log 8): an edge in
the microsecond of the reference is not taken, and no reference is later than that (StepsKeepParametersAndSensingSound). -/
def Obligations.FlowEdgeTakesAPeriod : Prop :=
  ∀ (l : Loop) (label : Nat) (s : State),
    let time := s.timeBase
    let c := s.flow l
    let z := loopZone l
    let stall := some (500000 * s.num (.stallTime l))
    let avg := s.num (.avg l)
    let sum (r : Nat) : Nat := c.accumulator + min 2000000 (time - r)
    let measured (r : Nat) : State :=
      s.setFlow l
        { reference := some time, accumulator := 0, periods := 0,
          flow := min 65535 (s.num (.kFlow l) * 10000 / (sum r / avg)), tag := .good, stall := stall }
    exec (.flowEdge l label) s = .next
      (match c.reference with
      | none => s.setFlow l { c with reference := some time, stall := stall }
      | some r =>
        if time ≤ r then s
        else if c.periods + 1 ≠ avg then
          s.setFlow l
            { c with reference := some time, accumulator := sum r, periods := c.periods + 1, stall := stall }
        else if (s.param (.kFlow l)).written = false then
          s.setFlow l { c with reference := some time, accumulator := 0, periods := 0, stall := stall }
        else if c.tag = .good then measured r
        else (measured r).withConditions z { (s.zone z).cond with stall := false })

/-! ## Guards (07) -/

/-- A guard's evaluation, which a change of its zone's conditions starts, and what a write of one of its parameters in RUN does
(`write` is then the action before the write): an ARMED guard without match trips; a TRIPPED one that matches returns to ARMED
and its action's effects end; after a write a TRIPPED one that still does not match trips again with the action in force. The
resolution of a wake runs after the trip's effects (the model's reading, log 18). -/
def Obligations.GuardsTripAndReturn : Prop :=
  ∀ (z : Zone) (write : Option GuardAction) (s : State), s.DemandsOk → s.RegimeOk → s.PortsOk →
    let t := match write with
      | none => s.evaluate z
      | some before => s.guardWritten z before
    let old := s.zone z
    let asks (i : Nat) (value : Bool) : Bool :=
      !(s.num (.guardSelect z)).testBit i || value == (s.num (.guardExpect z)).testBit i
    let hit : Bool := asks 0 old.cond.high && asks 1 old.cond.low && asks 2 old.cond.stall && asks 3 old.cond.blind &&
      asks 4 old.cond.short
    let trips : Bool := !hit && (old.guard == .armed || (old.guard == .tripped && write.isSome))
    let returns : Bool := hit && old.guard == .tripped
    let action := s.num (.guardAction z)
    let ends : Bool := (returns || (trips && old.guard == .tripped)) &&
      (match write with
      | none => action == 1
      | some before => before == .synth)
    let wakes : Bool := trips && s.regime.regime == .dormant
    let charge := s.regime.voteB == .charge && (s.port .B).presence == .present
    let drive := s.regime.voteM == .drive && (s.port .M).presence == .present
    let woken : Regime := if charge && s.hvReady then .priming else if drive then .drive else .park
    let flags (p : Port) : NoticeSet :=
      (s.port p).flags |||
        (if trips = true ∧ (zonePort z = p ∨ action = 2) then Notice.guard.mask else 0#9) |||
        (if wakes then Notice.regime.mask else 0#9)
    (∀ c : Conditions, s.withConditions z c =
      if old.cond = c then s else (s.setZone z { old with cond := c }).evaluate z) ∧
    t.zone z =
      { cond := old.cond
        guard := if trips then .tripped else if returns then .armed else old.guard
        trips := if trips then min 255 (old.trips + 1) else old.trips } ∧
    (∀ y, y ≠ z → t.zone y = s.zone y) ∧
    t.shed =
      (if trips || returns then
        allZones.any (fun y => (t.zone y).guard == .tripped && s.num (.guardAction y) == 2)
      else s.shed) ∧
    t.demand (gIx z) =
      (if trips = true ∧ action = 1 then
        { state := .waiting, sense := if s.num (.synthSense z) = 0 then .cool else .heat, tier := .protect, weight := 15,
          asked := s.num (.synthAmount z), granted := 0, leaseLength := 0, lease := none, starveCount := 0,
          starveMark := false }
      else if ends then Demand.freeSlot
      else s.demand (gIx z)) ∧
    (∀ i, i ≠ gIx z → t.demand i = s.demand i) ∧
    t.age =
      (if (t.demand (gIx z)).stands = (s.demand (gIx z)).stands then s.age
      else if (t.demand (gIx z)).stands then s.age ++ [gIx z]
      else s.age.filter (fun i => i != gIx z)) ∧
    t.regime =
      { s.regime with
        regime := if wakes then woken else s.regime.regime
        chargePending := if wakes then charge && !s.hvReady else s.regime.chargePending
        prime :=
          if wakes then (if woken = .priming then some (1000000 * s.num .primeTime) else none) else s.regime.prime
        dormant :=
          if t.regime.regime = .park ∧ t.tableEmpty = true then
            (if s.regime.regime = .park ∧ s.tableEmpty = true then s.regime.dormant
            else some (1000000 * s.num .dormantDelay))
          else none } ∧
    (∀ p, t.port p = { s.port p with flags := flags p, attention := flags p &&& (s.port p).enables != 0#9 }) ∧
    t = { s with
      ports := t.ports, demands := t.demands, age := t.age, regime := t.regime, zones := t.zones, shed := t.shed }

/-! ## Outputs (08) -/

/-- A map with ascending abscissas: 0 at source 0, the first ordinate up to the first point, the last from the last point on, each
point's own at the point, and the line between two points, truncated toward zero, which stays between their ordinates. -/
def Obligations.MapsFollowTheirPoints : Prop :=
  ∀ (point : Fin 4 → Param) (src : Nat) (s : State),
    let x (i : Fin 4) : Nat := (s.param (point i)).value.toNat
    let y (i : Fin 4) : Nat := (s.param (point i)).second.toNat
    let duty := mapDuty (s.mapPoints point) src
    (∀ i j : Fin 4, i.val + 1 = j.val → x i < x j) →
      (src = 0 → duty = 0) ∧
      (0 < src → src ≤ x 0 → duty = y 0) ∧
      (0 < src → x 3 ≤ src → duty = y 3) ∧
      (∀ i, 0 < src → src = x i → duty = y i) ∧
      ∀ i j : Fin 4, i.val + 1 = j.val → x i < src → src < x j →
        (duty : Int) = y i + (((y j : Int) - y i) * ((src : Int) - x i)).tdiv ((x j : Int) - x i) ∧
        min (y i) (y j) ≤ duty ∧ duty ≤ max (y i) (y j)

/-- A period boundary, which comes when the period has run out, applies the pending duty, if there is one, and begins a period of
the present PWM_PERIOD; over that period the output is active for duty times period div 1000 microseconds from its start, at duty 0
never and at duty 1000 throughout. That a boundary command with time left on its period, or with the timer stopped, changes nothing is
the model's choice (log 2, DESIGN CHOICE); so is the level, which is computed, not held, and whose last microsecond of a period lasts
to the next boundary (log 23, DESIGN CHOICE). -/
def Obligations.PeriodBoundaryAppliesThePendingDuty : Prop :=
  ∀ (c : PwmCh) (s : State),
    let old := s.out c
    let period := match c with
      | .pumpM => s.num (.pwmPeriodPump .motor)
      | .pumpB => s.num (.pwmPeriodPump .battery)
      | .fan => s.num .pwmPeriodFan
      | .comp => s.num .pwmPeriodComp
      | .heatC | .heatB => s.num .pwmPeriodHeat
    let duty := match old.pendingDuty with
      | some d => d
      | none => old.applied
    let new : PwmChannel :=
      { old with applied := duty, pendingDuty := none, period := period, periodLeft := some period }
    exec (.periodBoundary c) s = .next (if old.periodLeft = some 0 then s.setOut c new else s) ∧
    ∀ left, left ≤ period → 0 < period →
      ({ new with periodLeft := some left }.level = true ↔ period - max 1 left < duty * period / 1000) ∧
      (duty = 0 → { new with periodLeft := some left }.level = false) ∧
      (duty = 1000 → { new with periodLeft := some left }.level = true)

/-- FORCE in both forms: refused in RUN and for a channel above 5; otherwise a force is set and handed on, its duty brought to
at most 1000, or the force is released and the setpoint handed on, and the reply carries the channel's OUTPUT object. The code
of the force mark in the object is the model's reading (log 11). -/
def Obligations.ForceSetsAndReleasesAChannel : Prop :=
  ∀ (p : Port) (extra : Nat) (ch : Byte) (duty : Word) (s : State),
    let t := s.frameArrives p extra
    let d := min 1000 duty.toNat
    let object (c : PwmChannel) : Vector Byte 9 :=
      packData (u16 c.setpoint ++ u16 c.applied ++ [if c.force = none then 0#8 else 1#8])
    if h : ch.toNat < 6 then
      let k : PwmCh := allPwm.get ⟨ch.toNat, h⟩
      let old := s.out k
      let forced : PwmChannel := { old with force := some d, pendingDuty := some d }
      let released : PwmChannel := { old with force := none, pendingDuty := some old.setpoint }
      exec (.force p extra ch duty) s = .next
        (if s.running then t.stage p { status := .setupOnly, echo := 0x0B#8, data := object old }
        else (t.setOut k forced).stage p
          { status := if duty.toNat ≤ 1000 then .ok else .clamped, echo := 0x0B#8, data := object forced }) ∧
      exec (.forceRelease p extra ch) s = .next
        (if s.running then t.stage p { status := .setupOnly, echo := 0x0B#8, data := object old }
        else (t.setOut k released).stage p { status := .ok, echo := 0x0B#8, data := object released })
    else
      let refused := t.stage p
        { status := if s.running then .setupOnly else .badArg, echo := 0x0B#8, data := Vector.replicate 9 0#8 }
      exec (.force p extra ch duty) s = .next refused ∧ exec (.forceRelease p extra ch) s = .next refused

/-! ## The Parameter Store (09) -/

/-- A SETP that fails a check of R151: the first that fails decides the status, nothing is stored, and the reply carries the
parameter as it stands. GETP answers with the parameter. An unknown id gets BAD_ARG and zeros from both. The layout of the
parameter in a reply is the model's reading (log 12). -/
def Obligations.SetpRefusedAndGetpOnlyAnswer : Prop :=
  ∀ (p : Port) (extra : Nat) (id : Byte) (first second : Word) (s : State),
    let t := s.frameArrives p extra
    let answer (status : Status) (echo : Byte) (data : List Byte) : Host.Outcome State Fault Refusal :=
      .next (t.stage p { status := status, echo := echo, data := packData data })
    let verdict (q : Param) : Option Status :=
      if q.owner ≠ none ∧ q.owner ≠ some (portZone p) then some .notYours
      else if s.running = true ∧ q.row.live = false then some .locked
      else if s.judgeWrite q first second = none then some .badArg
      else none
    ((∀ q : Param, q.id ≠ id.toNat) →
      exec (.setp p extra id first second) s = answer .badArg 0x07#8 [] ∧
      exec (.getp p extra id) s = answer .badArg 0x08#8 []) ∧
    ∀ q : Param, q.id = id.toNat →
      exec (.getp p extra id) s = answer .ok 0x08#8 (s.paramObject q) ∧
      ∀ status, verdict q = some status →
        exec (.setp p extra id first second) s = answer status 0x07#8 (s.paramObject q)

/-- The value a SETP stores: a number is brought into its range, each half of a pair into its own; a value outside a list, or a
condition set with a bit above 4, is refused; GUARD_EXPECT ignores the bits above 4; COMP_MIN is brought down to a written
COMP_MAX. Which parameters are signed, and that an enumerated number such as CYCLE_RUN comes as the number itself, is the model's
reading (logs 12 and 13). -/
def Obligations.SetpValuesAreBroughtIntoRange : Prop :=
  ∀ (q : Param) (first second : Word) (s : State),
    let sent : Int × Int :=
      match q.row.domain with
      | .num _ _ | .oneOf _ | .condSet => (first.toNat, 0)
      | .temp _ _ => (first.toInt, 0)
      | .convPair => (first.toNat, second.toInt)
      | .mapPair => (first.toNat, second.toNat)
      | .condExpect => ((first.toNat % 32 : Nat), 0)
    let ranged : Int × Int :=
      match q.row.domain with
      | .num lo hi => (max (lo : Int) (min (hi : Int) sent.1), 0)
      | .temp lo hi => (max lo (min hi sent.1), 0)
      | .convPair => (max 0 (min 4095 sent.1), max (-400) (min 1500 sent.2))
      | .mapPair => (max 0 (min 2400 sent.1), max 0 (min 1000 sent.2))
      | .oneOf _ | .condSet | .condExpect => sent
    let value : Int :=
      if q = .compMin ∧ (s.param .compMax).written = true then min ranged.1 (s.int .compMax) else ranged.1
    let refused : Bool :=
      match q.row.domain with
      | .oneOf vals => !vals.contains first.toNat
      | .condSet => decide (32 ≤ first.toNat)
      | .num _ _ | .temp _ _ | .convPair | .mapPair | .condExpect => false
    s.judgeWrite q first second =
      if refused then none
      else some { value := value, second := ranged.2, clamped := decide ((value, ranged.2) ≠ sent) }

/-- A SETP that passes every check: the parameter holds the value with its written mark and writer, and COMP_MIN follows a
COMP_MAX below it. In SETUP every start vote is cleared, with SETUP on every port if one stood; a conversion point returns all
temperature channels to INIT and a write of AVG clears its average. In RUN a guard parameter reaches its guard and nothing else
changes. The layout of the parameter in the reply is the model's reading (log 12). -/
def Obligations.SetpTakenStoresAndReaches : Prop :=
  ∀ (p : Port) (extra : Nat) (id : Byte) (first second : Word) (q : Param) (j : Judged) (s : State), s.ZonesOk →
    q.id = id.toNat → (q.owner = none ∨ q.owner = some (portZone p)) → (s.running = true → q.row.live = true) →
    s.judgeWrite q first second = some j →
    let t := s.frameArrives p extra
    ∃ params : Vector ParamEntry 100, let stored : State := { t with params := params }
      (∀ r, stored.param r =
        if r = q then { value := j.value, second := j.second, written := true, writer := some p }
        else if r = .compMin ∧ q = .compMax ∧ j.value < s.int .compMin then
          { value := j.value, second := 0, written := true, writer := some p }
        else s.param r) ∧
      let conv : Bool := match q with
        | .convPt _ => true
        | _ => false
      let blinded (m : ZoneMonitor) : ZoneMonitor := { m with cond := { m.cond with high := false, low := false, blind := true } }
      let averaged (l : Loop) (c : FlowChannel) : FlowChannel :=
        if q = .avg l then { c with accumulator := 0, periods := 0 } else c
      let unvoted : State :=
        { stored with
          setup := { s.setup with votes := Vector.replicate 3 false }
          temps :=
            if conv then
              mapTable (fun c => { raw := c.raw, lastReading := 0, filtered := 0, tag := .init, hold := none, recover := 0 }) s.temps
            else s.temps
          zones := if conv then mapTable blinded s.zones else s.zones
          flows := #v[averaged .motor (s.flow .motor), averaged .battery (s.flow .battery)] }
      let after : State :=
        if s.running then
          match q with
          | .guardSelect z | .guardExpect z | .guardAction z => stored.guardWritten z (s.guardAction z)
          | _ => stored
        else if s.startVote .M || s.startVote .B || s.startVote .C then unvoted.notifyAll .setup
        else unvoted
      exec (.setp p extra id first second) s = .next
        (after.stage p
          { status := if j.clamped then .clamped else .ok, echo := 0x07#8, data := packData (after.paramObject q) })

/-! ## Setup and RUN entry (09) -/

/-- START records the port's vote, UNSTART withdraws it, both only in SETUP; the START that makes all three stand validates the
parameters; and both answer with the SETUP object as it then stands. The codes in the object are the model's reading (log 11). -/
def Obligations.StartVotesAreKept : Prop :=
  ∀ (p : Port) (extra : Nat) (s : State),
    let t := s.frameArrives p extra
    let vote (v : Bool) : State := { t with setup := { s.setup with votes := put s.setup.votes (portIx p) v } }
    let third : Prop := ∀ q, q ≠ p → s.startVote q = true
    let answer (u : State) (echo : Byte) : Host.Outcome State Fault Refusal :=
      .next (u.stage p
        { status := .ok, echo := echo
          data := packData
            ((if u.running then 1#8 else 0#8) ::
              ([Port.M, .B, .C].map (fun q => if u.startVote q then 1#8 else 0#8)) ++
              [BitVec.ofNat 8 u.setup.reason.code, BitVec.ofNat 8 u.setup.faultId]) })
    exec (.unstart p extra) s = answer (if s.running then t else vote false) 0x0A#8 ∧
    (s.running = true ∨ s.startVote p = true → exec (.start p extra) s = answer t 0x09#8) ∧
    (s.running = false → s.startVote p = false → ¬ third → exec (.start p extra) s = answer (vote true) 0x09#8) ∧
    (s.running = false → s.startVote p = false → third → exec (.start p extra) s = answer (vote true).validate 0x09#8)

/-- Validation fails at the lowest id that fails a check: the fault record takes that id and its reason, the votes are cleared,
SETUP is set on every port, and the part stays in SETUP. It passes where no id fails. That the conversion table and each map
are one relation each, not checked while a point is unwritten, is the model's reading (log 22). -/
def Obligations.ValidationFailsAtTheLowestId : Prop :=
  ∀ s : State,
    let written (q : Param) : Bool := (s.param q).written
    let x (q : Param) : Int := (s.param q).value
    let y (q : Param) : Int := (s.param q).second
    let mapBreaks (point : Fin 4 → Param) (i : Fin 4) : Bool :=
      decide ((∀ k, written (point k) = true) ∧ ∃ h : Fin 4, h.val + 1 = i.val ∧ x (point i) ≤ x (point h))
    let convBreaks (i : Fin 8) : Bool :=
      decide ((∀ k, written (.convPt k) = true) ∧ ∃ h : Fin 8, h.val + 1 = i.val ∧
        ¬ (x (.convPt h) < x (.convPt i) ∧
          if y (.convPt 0) < y (.convPt 1) then y (.convPt h) < y (.convPt i) else y (.convPt i) < y (.convPt h)))
    let fails (q : Param) : Option FaultReason :=
      if q.row.default = none ∧ written q = false then some .unwritten
      else
        match q with
        | .high z =>
          if written (.low z) = true ∧ x (.high z) ≤ x (.low z) + 2 * x (.hyst z) then some .zoneBands else none
        | .convPt i => if convBreaks i then some .convOrder else none
        | .compMap i => if mapBreaks .compMap i then some .mapOrder else none
        | .fanMap i => if mapBreaks .fanMap i then some .mapOrder else none
        | .pumpMap l i => if mapBreaks (.pumpMap l) i then some .mapOrder else none
        | .trDerate => if x .trCutoff ≤ x .trDerate then some .compTemps else none
        | _ => none
    (s.lowestFailure = none ↔ ∀ q, fails q = none) ∧
    ∀ (q : Param) (reason : FaultReason), fails q = some reason → (∀ r : Param, r.id < q.id → fails r = none) →
      s.validate =
        { s with
          setup :=
            { s.setup with votes := Vector.replicate 3 false, reason := reason, faultId := q.id } }.notifyAll .setup

/-- Validation that passes enters RUN: the regime is resolved as from PARK with port M's vote PARK, the cycle timer starts, SAFE is in
force, every guard is ARMED and evaluated at once, every force is cleared and its setpoint handed on, and REGIME and SETUP are set on
every port. R126 and R159 give no order among the three guards: that the G demands join the age list in the order MOTOR, BATTERY,
CABIN is the model's choice (log 24, DESIGN CHOICE). -/
def Obligations.ValidationThatPassesEntersRun : Prop :=
  ∀ s : State, s.Ok → s.running = false → s.lowestFailure = none →
    let t := s.validate
    let charge := s.regime.voteB == .charge && (s.port .B).presence == .present
    let regime : Regime := if charge && s.hvReady then .priming else .park
    let period : Nat := if regime = .priming then 1000 * s.num .cycleRun else 1000 * s.num .cyclePark
    let trips (z : Zone) : Bool := !s.guardMatches z
    let action (z : Zone) : Nat := s.num (.guardAction z)
    let synthetic (z : Zone) : Bool := trips z && action z == 1
    let flags (p : Port) : NoticeSet :=
      (s.port p).flags ||| Notice.regime.mask ||| Notice.setup.mask |||
        (if allZones.any (fun z => trips z && (zonePort z == p || action z == 2)) then Notice.guard.mask else 0#9)
    t.setup = { s.setup with state := .run, reason := .noFault, faultId := 0 } ∧
    t.regime =
      { regime := regime, voteM := .park, voteB := s.regime.voteB, chargePending := charge && !s.hvReady
        prime := if regime = .priming then some (1000000 * s.num .primeTime) else none
        dormant := if regime = .park ∧ t.tableEmpty = true then some (1000000 * s.num .dormantDelay) else none } ∧
    t.alloc =
      { s.alloc with
        cycleLength := period, cycleLeft := some period, inForce := .safe, allowLease := none, pendingAllow := none } ∧
    (∀ z, t.zone z =
      { cond := (s.zone z).cond, guard := if trips z then .tripped else .armed
        trips := if trips z then min 255 ((s.zone z).trips + 1) else (s.zone z).trips }) ∧
    t.shed = allZones.any (fun z => trips z && action z == 2) ∧
    (∀ z, t.demand (gIx z) =
      if synthetic z then
        { state := .waiting, sense := if s.num (.synthSense z) = 0 then .cool else .heat, tier := .protect, weight := 15,
          asked := s.num (.synthAmount z), granted := 0, leaseLength := 0, lease := none, starveCount := 0,
          starveMark := false }
      else s.demand (gIx z)) ∧
    (∀ z k, t.demand (postedIx z k) = s.demand (postedIx z k)) ∧
    t.age = s.age ++ (allZones.filter synthetic).map gIx ∧
    (∀ c, t.out c =
      if (s.out c).force = none then s.out c
      else { s.out c with force := none, pendingDuty := some (s.out c).setpoint }) ∧
    (∀ p, t.port p = { s.port p with flags := flags p, attention := flags p &&& (s.port p).enables != 0#9 }) ∧
    t = { s with
      setup := t.setup, regime := t.regime, alloc := t.alloc, zones := t.zones, shed := t.shed, demands := t.demands,
      age := t.age, pwm := t.pwm, ports := t.ports }

/-! ## READ and NEXT (11) -/

/-- What each object of READ holds, field by field, and what a SETP or GETP reply says of a parameter. Quantities of two bytes go
most significant byte first and signed ones in two's complement, enumerated values by their place in their rule's list, and a
timer in whole seconds rounded up. One byte for a flag, the fields of ZONESTATE and RESOURCE, the layout of a parameter, which of
its numbers are counts up to 255 in one byte, and which parameters are signed are the model's reading (logs 11 to 15). -/
def Obligations.ObjectsCarryTheirFields : Prop :=
  ∀ (p : Port) (s : State),
    let one (n : Nat) : List Byte := [BitVec.ofNat 8 n]
    let two (n : Nat) : List Byte := [BitVec.ofNat 8 (n / 256), BitVec.ofNat 8 n]
    let signed (v : Int) : List Byte := two (v % 65536).toNat
    let flag (b : Bool) : List Byte := one (if b then 1 else 0)
    let secs (t : Option Nat) : Nat :=
      match t with
      | none => 0
      | some us => max 1 ((us + 999999) / 1000000)
    let regimes : List Regime := [.noRegime, .park, .drive, .priming, .charge, .dormant]
    let modes : List Mode := [.separate, .series, .scavenge]
    let temp (z : Zone) : TempCh := match z with
      | .motor => .tmOut
      | .battery => .tbOut
      | .cabin => .tc
    let flow (z : Zone) : Nat := match z with
      | .motor => (s.flow .motor).flow
      | .battery => (s.flow .battery).flow
      | .cabin => 0
    let heat (z : Zone) : DeliveredRecord := match z with
      | .motor => s.record .motor
      | .battery => s.record .battery
      | .cabin => { delivered := 0, measured := false, saturated := false, shortfall := 0 }
    let granted (z : Zone) : Nat := match s.alloc.published with
      | none => 0
      | some g => g.loopTotal.get (zoneIx z)
    let hit (z : Zone) : Bool :=
      let c := (s.zone z).cond
      ([(0, c.high), (1, c.low), (2, c.stall), (3, c.blind), (4, c.short)] : List (Nat × Bool)).all fun b =>
        !(s.num (.guardSelect z)).testBit b.1 || b.2 == (s.num (.guardExpect z)).testBit b.1
    let resource (pool total : GrantSet → Nat) (more : List (GrantSet → Nat)) : List Byte :=
      match s.alloc.published with
      | none => List.replicate (13 + 2 * more.length) 0#8
      | some g =>
        two (pool g) ++ two (total g) ++ two g.compDraw ++ two g.heaterDraw ++ two g.totalDraw ++ two g.allowance ++
          one (([.noAllowance, .safe, .granted] : List AllowSource).idxOf g.source) ++ more.flatMap (fun f => two (f g))
    let value (q : Param) : List Byte :=
      let e := s.param q
      match q.row.domain with
      | .convPair => two e.value.toNat ++ signed e.second
      | .mapPair => two e.value.toNat ++ two e.second.toNat
      | .temp _ _ => signed e.value
      | .condSet | .condExpect => one e.value.toNat
      | .oneOf values => one (values.idxOf e.value.toNat)
      | .num _ _ =>
        match q with
        | .cop | .radK | .scavK | .starveLimit | .filterK | .recoverCount | .shortPct _ | .shortCycles _ | .travelMax
        | .retryDelay | .linkTimeout | .holdTime | .stallTime _ | .primeTime => one e.value.toNat
        | _ => two e.value.toNat
    (∀ i, let d := s.demand i
      s.object p 0x01 i.val = some
        (one (([.free, .waiting, .served, .partly, .starved, .held] : List DemandState).idxOf d.state) ++
          one (([.cool, .heat] : List Sense).idxOf d.sense) ++
          one (([.protect, .charge, .drive, .comfort] : List Tier).idxOf d.tier) ++
          one (min 15 (d.weight + min 14 d.starveCount)) ++ two d.asked ++ two d.granted ++ one (secs d.lease))) ∧
    (∃ bytes, s.object p 0x02 0 = some bytes ∧ bytes.length = 16 ∧ bytes.head? = some (BitVec.ofNat 8 s.age.length) ∧
      ∀ k, k < 15 → bytes[k + 1]? =
        match s.age[k]? with
        | some i => some (BitVec.ofNat 8 i.val)
        | none => some 0xFF#8) ∧
    (∀ z, let c := s.temp (temp z)
      s.object p 0x03 (zoneIx z).val = some
        (signed c.filtered ++
          one (([.init, .good, .clampedLow, .clampedHigh, .stale, .blind] : List TempTag).idxOf c.tag) ++ two (flow z) ++
          signed (heat z).delivered ++ two (granted z))) ∧
    (∀ z, let m := s.zone z
      s.object p 0x04 (zoneIx z).val = some
        (flag m.cond.high ++ flag m.cond.low ++ flag m.cond.stall ++ flag m.cond.blind ++ flag m.cond.short ++ flag (hit z) ++
          one (([.unarmed, .armed, .tripped] : List GuardState).idxOf m.guard) ++ one m.trips ++ one (heat z).shortfall ++
          flag (heat z).measured ++ flag (heat z).saturated ++ flag s.shed)) ∧
    s.object p 0x05 0 = some (resource GrantSet.scavPool GrantSet.scavTotal [GrantSet.creditTotal]) ∧
    s.object p 0x05 1 = some (resource GrantSet.radPool GrantSet.radTotal []) ∧
    s.object p 0x05 2 = some (resource GrantSet.compPool GrantSet.compTotal [GrantSet.revoked]) ∧
    s.object p 0x05 3 = some (resource GrantSet.ptcPool GrantSet.ptcTotal []) ∧
    (∀ i, s.object p 0x06 i = some
      (one (([.settled, .travel, .retryWait, .locked] : List ValveState).idxOf s.valve.state) ++
        one (modes.idxOf s.valve.fromMode) ++ one (modes.idxOf s.valve.toMode) ++ one s.valve.attempt ++
        two (secs s.valve.dwell))) ∧
    (∀ i, s.object p 0x07 i = some
      (one (regimes.idxOf s.regime.regime) ++ flag (s.regime.voteM == .drive) ++ flag (s.regime.voteB == .charge) ++
        ([.M, .B, .C] : List Port).flatMap (fun q => flag ((s.port q).presence == .absent)) ++
        flag s.regime.chargePending)) ∧
    (∀ ch, let c := s.temp ch
      s.object p 0x08 (tempIx ch).val = some
        (signed c.filtered ++
          one (([.init, .good, .clampedLow, .clampedHigh, .stale, .blind] : List TempTag).idxOf c.tag) ++
          two c.raw.toNat ++ signed c.lastReading)) ∧
    (∀ l, s.object p 0x09 (loopIx l).val = some
      (two (s.flow l).flow ++ flag ((s.flow l).tag == .good) ++ one (s.flow l).periods)) ∧
    (∀ c, s.object p 0x0A (pwmIx c).val = some
      (two (s.out c).setpoint ++ two (s.out c).applied ++ flag (s.out c).force.isSome)) ∧
    (∀ i, s.object p 0x0B i = some
      (flag s.running ++ ([.M, .B, .C] : List Port).flatMap (fun q => flag (s.startVote q)) ++
        one (([.noFault, .unwritten, .zoneBands, .convOrder, .mapOrder, .compTemps] : List FaultReason).idxOf
          s.setup.reason) ++ one s.setup.faultId)) ∧
    (∀ i, s.object p 0x0C i = some
      (one (([.powerOn, .resetLine, .supplyDip] : List ResetCause).idxOf s.resetRecord.cause) ++
        one s.resetRecord.count)) ∧
    (∀ i, s.object p 0x0D i = some
      (two (s.port p).flags.toNat ++ two (s.port p).enables.toNat ++ flag (s.port p).attention)) ∧
    ∀ q, s.paramObject q =
      one q.id ++ value q ++
        one (match (s.param q).writer with
          | none => 0
          | some .M => 1
          | some .B => 2
          | some .C => 3) ++ flag (s.param q).written

/-- READ: which classes and indices exist, and the part of the object that bit 7 of the index byte selects; anything else is
BAD_ARG with zeros. Nothing but the reply changes. That AGE takes index 0 alone and a class without an index any is the model's
reading (log 16). -/
def Obligations.ReadSelectsAPart : Prop :=
  ∀ (p : Port) (extra : Nat) (cls index : Byte) (s : State),
    let t := s.frameArrives p extra
    let i := index.toNat % 128
    let answer (status : Status) (data : List Byte) : Host.Outcome State Fault Refusal :=
      .next (t.stage p { status := status, echo := 0x0D#8, data := packData data })
    let indices : Nat :=
      match cls.toNat with
      | 0x01 => 15
      | 0x02 => 1
      | 0x03 | 0x04 => 3
      | 0x05 => 4
      | 0x06 | 0x07 | 0x0B | 0x0C | 0x0D => 128
      | 0x08 => 7
      | 0x09 => 2
      | 0x0A => 6
      | _ => 0
    (i < indices → ∃ bytes, t.object p cls.toNat i = some bytes ∧
      exec (.read p extra cls index) s =
        (if index.toNat < 128 then answer .ok (bytes.take 9)
        else if 9 < bytes.length then answer .ok (bytes.drop 9)
        else answer .badArg []) ∧
      (9 < bytes.length ↔ cls = 0x02#8 ∨ cls = 0x04#8 ∨ cls = 0x05#8) ∧ bytes.length ≤ 18) ∧
    (indices ≤ i → exec (.read p extra cls index) s = answer .badArg [])

/-- NEXT: the record at the port's cursor, the cursor one further and the mark cleared, OVERRUN if the mark was set; EMPTY with zeros
at the empty end. -/
def Obligations.NextReadsTheRing : Prop :=
  ∀ (p : Port) (extra : Nat) (s : State), s.PortsOk →
    let t := s.frameArrives p extra
    let cursor := (s.port p).cursor
    if cursor = s.ring.appended + 1 then
      exec (.next p extra) s =
        .next (t.stage p { status := .empty, echo := 0x0E#8, data := Vector.replicate 9 0#8 })
    else
      ∃ x : Snapshot, s.ring.records[cursor + s.ring.records.length - (s.ring.appended + 1)]? = some x ∧
        exec (.next p extra) s =
          .next (t.setPort p
            { t.port p with
              cursor := cursor + 1
              overrun := false
              staged :=
                { status := if (s.port p).overrun then .overrun else .ok, echo := 0x0E#8,
                  data := packData
                    (u16 x.seq.toNat ++ u8 (x.regime.code * 32 + x.valveState.code * 8 + x.toMode.code) ++ u16 x.compTotal ++
                      u16 x.radTotal ++ u8 x.ptcTotal ++ u8 x.scavTotal) } })

/-! ## What every step keeps -/

/-- Right after reset every block is sound. -/
def Obligations.ResetMeetsEveryInvariant : Prop := State.reset.Ok

/-- Every step keeps the link ports, the ring's cursors and the mode valve sound; and the receiver's inputs, which are no steps, keep
the ports sound: select asserted, a bit at a rising edge of SCK, and select released, on any port (R162, log 4). -/
def Obligations.StepsKeepPortsAndValveSound : Prop :=
  (∀ s t : State, step s = .next t → (s.PortsOk → t.PortsOk) ∧ (s.ValveOk → t.ValveOk)) ∧
  ∀ (p : Port) (sdi : Bool) (s : State), s.PortsOk →
    (s.selectAsserted p).PortsOk ∧ (s.sckRises p sdi).PortsOk ∧ (s.selectReleased p).PortsOk

/-- Every step keeps every parameter in its range and under its owner, and the sensing channels in theirs. -/
def Obligations.StepsKeepParametersAndSensingSound : Prop :=
  ∀ s t : State, step s = .next t → s.ParamsOk → t.ParamsOk ∧ (s.SensingOk → t.SensingOk)

/-- Every step keeps the Demand Table and the age list sound. -/
def Obligations.StepsKeepTheDemandTableSound : Prop :=
  ∀ s t : State, step s = .next t → s.ParamsOk → s.DemandsOk → t.DemandsOk

/-- Every step keeps the Allocator and both its grant sets sound. -/
def Obligations.StepsKeepTheAllocatorSound : Prop :=
  ∀ s t : State, step s = .next t → s.AllocOk → t.AllocOk

/-- Every step leaves the regime the one that its inputs resolve to, and its timers with it. -/
def Obligations.StepsKeepTheRegimeResolved : Prop :=
  ∀ s t : State, step s = .next t → s.RegimeOk → t.RegimeOk

/-- Every step keeps conditions, guards, synthetic demands and SHED in agreement. -/
def Obligations.StepsKeepGuardsAndConditionsInAgreement : Prop :=
  ∀ s t : State, step s = .next t → s.ZonesOk → t.ZonesOk

/-- Every step keeps the duties within range, no force in RUN, and everything at 0 in DORMANT. -/
def Obligations.StepsKeepTheOutputsSound : Prop :=
  ∀ s t : State, step s = .next t → s.ParamsOk → s.AllocOk → s.RegimeOk → s.OutputsOk → t.OutputsOk

/-- RUN is entered by the START that completes the votes and passes validation, and by nothing else; it is left by a reset, and by
nothing else. -/
def Obligations.OnlyStartEntersRunAndOnlyResetLeavesIt : Prop :=
  ∀ (c : Instr) (s t : State), exec c s = .next t →
    (s.running = false → t.running = true →
      ∃ p extra, c = .start p extra ∧ s.startVote p = false ∧ (∀ q, q ≠ p → s.startVote q = true) ∧ s.lowestFailure = none) ∧
    (s.running = true → t.running = false → c.isReset = true)

/-- DORMANT is entered by the dormant timer alone. It is left by a good frame, by HV_READY rising, by a guard that trips, or by a
reset, and by nothing else; a good frame and HV_READY rising always end it. -/
def Obligations.OnlyTheNamedEventsEndDormant : Prop :=
  ∀ (c : Instr) (s t : State), exec c s = .next t →
    (s.regime.regime ≠ .dormant → t.regime.regime = .dormant → c = .dormantTimerExpiry) ∧
    (s.regime.regime = .dormant → t.regime.regime ≠ .dormant →
      c.isGoodFrame = true ∨ c = .hvReadyRise ∨ c.isReset = true ∨
        ∃ z, (s.zone z).guard = .armed ∧ (t.zone z).guard = .tripped) ∧
    (s.regime.regime = .dormant → c.isGoodFrame = true ∨ c = .hvReadyRise → t.regime.regime ≠ .dormant)
end

