-- ==== Sys2Proof/Laws/Tables.lean ====
section
/-!
SUPPORT. Reading a table after a write, and the numberings of ports, zones, loops, channels, slots and parameters.
-/

namespace Sys2Proof.Machine

/-! ## One place of a table -/

theorem get_put {α : Type} {n : Nat} (v : Vector α n) (i j : Fin n) (x : α) :
    (put v i x).get j = if j = i then x else v.get j := by
  obtain ⟨i, hi⟩ := i
  obtain ⟨j, hj⟩ := j
  simp only [put, Vector.get_eq_getElem, Vector.getElem_set, Fin.mk.injEq, eq_comm (a := i)]

@[simp] theorem get_put_self {α : Type} {n : Nat} (v : Vector α n) (i : Fin n) (x : α) : (put v i x).get i = x := by
  simp [get_put]

theorem get_put_of_ne {α : Type} {n : Nat} (v : Vector α n) {i j : Fin n} (x : α) (h : j ≠ i) :
    (put v i x).get j = v.get j := by
  simp [get_put, h]

theorem vector_ext_get {α : Type} {n : Nat} {v w : Vector α n} (h : ∀ i : Fin n, v.get i = w.get i) : v = w := by
  apply Vector.ext
  intro i hi
  simpa [Vector.get_eq_getElem] using h ⟨i, hi⟩

@[simp] theorem put_put {α : Type} {n : Nat} (v : Vector α n) (i : Fin n) (x y : α) : put (put v i x) i y = put v i y := by
  apply vector_ext_get
  intro j
  simp only [get_put]
  split <;> rfl

@[simp] theorem put_get {α : Type} {n : Nat} (v : Vector α n) (i : Fin n) : put v i (v.get i) = v := by
  apply vector_ext_get
  intro j
  simp only [get_put]
  split <;> simp_all

theorem put_comm {α : Type} {n : Nat} (v : Vector α n) {i j : Fin n} (x y : α) (h : i ≠ j) :
    put (put v i x) j y = put (put v j y) i x := by
  apply vector_ext_get
  intro k
  simp only [get_put]
  split <;> split <;> simp_all

@[simp] theorem get_mapTable {α : Type} {n : Nat} (f : α → α) (v : Vector α n) (i : Fin n) :
    (mapTable f v).get i = f (v.get i) := by
  obtain ⟨⟨l⟩, hl⟩ := v
  obtain ⟨i, hi⟩ := i
  simp [mapTable, Vector.get_eq_getElem]

@[simp] theorem get_replicate {α : Type} {n : Nat} (x : α) (i : Fin n) : (Vector.replicate n x).get i = x := by
  simp [Vector.get_eq_getElem]

/-! ## The numberings name each thing once -/

@[simp] theorem portIx_inj {p q : Port} : portIx p = portIx q ↔ p = q := by cases p <;> cases q <;> decide
@[simp] theorem zoneIx_inj {p q : Zone} : zoneIx p = zoneIx q ↔ p = q := by cases p <;> cases q <;> decide
@[simp] theorem loopIx_inj {p q : Loop} : loopIx p = loopIx q ↔ p = q := by cases p <;> cases q <;> decide
@[simp] theorem tempIx_inj {p q : TempCh} : tempIx p = tempIx q ↔ p = q := by cases p <;> cases q <;> decide
@[simp] theorem pwmIx_inj {p q : PwmCh} : pwmIx p = pwmIx q ↔ p = q := by cases p <;> cases q <;> decide

@[simp] theorem zonePort_portZone (p : Port) : zonePort (portZone p) = p := by cases p <;> rfl
@[simp] theorem portZone_zonePort (z : Zone) : portZone (zonePort z) = z := by cases z <;> rfl
@[simp] theorem portZone_inj {p q : Port} : portZone p = portZone q ↔ p = q := by cases p <;> cases q <;> decide

@[simp] theorem slotIx_inj {y z : Zone} {j k : Fin 5} : slotIx y j = slotIx z k ↔ y = z ∧ j = k := by
  cases y <;> cases z <;> simp [slotIx, Fin.ext_iff] <;> omega

@[simp] theorem postedIx_inj {y z : Zone} {j k : Fin 4} : postedIx y j = postedIx z k ↔ y = z ∧ j = k := by
  rw [postedIx, postedIx, slotIx_inj, Fin.ext_iff, Fin.ext_iff]

theorem postedIx_ne_gIx (y z : Zone) (k : Fin 4) : postedIx y k ≠ gIx z := by
  rw [postedIx, gIx, ne_eq, slotIx_inj, not_and]
  intro _ h
  have h4 : k.val = 4 := congrArg Fin.val h
  omega

@[simp] theorem gIx_inj {y z : Zone} : gIx y = gIx z ↔ y = z := by simp [gIx]

@[simp] theorem zoneOfIx_slotIx (z : Zone) (k : Fin 5) : zoneOfIx (slotIx z k) = z := by
  cases z <;> revert k <;> decide

@[simp] theorem zoneOfIx_postedIx (z : Zone) (k : Fin 4) : zoneOfIx (postedIx z k) = z := by simp [postedIx]
@[simp] theorem zoneOfIx_gIx (z : Zone) : zoneOfIx (gIx z) = z := by simp [gIx]

@[simp] theorem mem_allSlots (i : Fin 15) : i ∈ allSlots := by revert i; decide

/-- Every slot index is a posted slot of its zone or its zone's slot G. -/
theorem slot_cases (i : Fin 15) : (∃ z k, i = postedIx z k) ∨ ∃ z, i = gIx z := by
  have h : ∀ i : Fin 15, (∃ z ∈ allZones, ∃ k : Fin 4, i = postedIx z k) ∨ ∃ z ∈ allZones, i = gIx z := by decide
  rcases h i with ⟨z, _, k, e⟩ | ⟨z, _, e⟩
  · exact .inl ⟨z, k, e⟩
  · exact .inr ⟨z, e⟩

/-! ## Parameters -/

/-- A parameter stands at its place among the hundred. -/
theorem allParams_place (q : Param) : allParams[q.place.val]? = some q := by
  cases q with
  | pumpMap l i => cases l <;> (revert i; decide)
  | convPt i => revert i; decide
  | compMap i => revert i; decide
  | fanMap i => revert i; decide
  | _ => first | rfl | (rename_i a; cases a <;> rfl)

theorem place_inj {q r : Param} : q.place = r.place ↔ q = r := by
  constructor
  · intro h
    have hq := allParams_place q
    rw [h, allParams_place r] at hq
    exact (Option.some.inj hq).symm
  · intro h; rw [h]

/-- A parameter's id names it. -/
theorem ofId_id (q : Param) : Param.ofId q.id = some q := by
  cases q with
  | pumpMap l i => cases l <;> (revert i; decide)
  | convPt i => revert i; decide
  | compMap i => revert i; decide
  | fanMap i => revert i; decide
  | _ => first | rfl | (rename_i a; cases a <;> rfl)

/-- A parameter after any reset. -/
@[simp] theorem initialParams_get (q : Param) : initialParams.get q.place = ParamEntry.initial q := by
  obtain ⟨h, e⟩ := List.getElem?_eq_some_iff.mp (allParams_place q)
  simp [initialParams, Vector.get_eq_getElem, e]

end Sys2Proof.Machine
end

