-- ==== Sys2Proof/Laws/State.lean ====
section
/-!
SUPPORT. The writes of State's tables: what each puts in its own field, and that every other field stays (one lemma per field).
-/

namespace Sys2Proof.Machine

section
variable (s : State) (p : Port) (x : LinkPort)

@[simp] theorem State.setPort_ports : (s.setPort p x).ports = put s.ports (portIx p) x := rfl
@[simp] theorem State.setPort_demands : (s.setPort p x).demands = s.demands := rfl
@[simp] theorem State.setPort_age : (s.setPort p x).age = s.age := rfl
@[simp] theorem State.setPort_alloc : (s.setPort p x).alloc = s.alloc := rfl
@[simp] theorem State.setPort_valve : (s.setPort p x).valve = s.valve := rfl
@[simp] theorem State.setPort_regime : (s.setPort p x).regime = s.regime := rfl
@[simp] theorem State.setPort_temps : (s.setPort p x).temps = s.temps := rfl
@[simp] theorem State.setPort_flows : (s.setPort p x).flows = s.flows := rfl
@[simp] theorem State.setPort_delivered : (s.setPort p x).delivered = s.delivered := rfl
@[simp] theorem State.setPort_zones : (s.setPort p x).zones = s.zones := rfl
@[simp] theorem State.setPort_shed : (s.setPort p x).shed = s.shed := rfl
@[simp] theorem State.setPort_pwm : (s.setPort p x).pwm = s.pwm := rfl
@[simp] theorem State.setPort_params : (s.setPort p x).params = s.params := rfl
@[simp] theorem State.setPort_setup : (s.setPort p x).setup = s.setup := rfl
@[simp] theorem State.setPort_ring : (s.setPort p x).ring = s.ring := rfl
@[simp] theorem State.setPort_resetRecord : (s.setPort p x).resetRecord = s.resetRecord := rfl
@[simp] theorem State.setPort_hvReady : (s.setPort p x).hvReady = s.hvReady := rfl
@[simp] theorem State.setPort_valveAt : (s.setPort p x).valveAt = s.valveAt := rfl
@[simp] theorem State.setPort_pending : (s.setPort p x).pending = s.pending := rfl
@[simp] theorem State.setPort_timeBase : (s.setPort p x).timeBase = s.timeBase := rfl

end

section
variable (s : State) (i : Fin 15) (d : Demand)

@[simp] theorem State.setDemand_ports : (s.setDemand i d).ports = s.ports := rfl
@[simp] theorem State.setDemand_demands : (s.setDemand i d).demands = put s.demands (i) d := rfl
@[simp] theorem State.setDemand_age : (s.setDemand i d).age = s.age := rfl
@[simp] theorem State.setDemand_alloc : (s.setDemand i d).alloc = s.alloc := rfl
@[simp] theorem State.setDemand_valve : (s.setDemand i d).valve = s.valve := rfl
@[simp] theorem State.setDemand_regime : (s.setDemand i d).regime = s.regime := rfl
@[simp] theorem State.setDemand_temps : (s.setDemand i d).temps = s.temps := rfl
@[simp] theorem State.setDemand_flows : (s.setDemand i d).flows = s.flows := rfl
@[simp] theorem State.setDemand_delivered : (s.setDemand i d).delivered = s.delivered := rfl
@[simp] theorem State.setDemand_zones : (s.setDemand i d).zones = s.zones := rfl
@[simp] theorem State.setDemand_shed : (s.setDemand i d).shed = s.shed := rfl
@[simp] theorem State.setDemand_pwm : (s.setDemand i d).pwm = s.pwm := rfl
@[simp] theorem State.setDemand_params : (s.setDemand i d).params = s.params := rfl
@[simp] theorem State.setDemand_setup : (s.setDemand i d).setup = s.setup := rfl
@[simp] theorem State.setDemand_ring : (s.setDemand i d).ring = s.ring := rfl
@[simp] theorem State.setDemand_resetRecord : (s.setDemand i d).resetRecord = s.resetRecord := rfl
@[simp] theorem State.setDemand_hvReady : (s.setDemand i d).hvReady = s.hvReady := rfl
@[simp] theorem State.setDemand_valveAt : (s.setDemand i d).valveAt = s.valveAt := rfl
@[simp] theorem State.setDemand_pending : (s.setDemand i d).pending = s.pending := rfl
@[simp] theorem State.setDemand_timeBase : (s.setDemand i d).timeBase = s.timeBase := rfl

end

section
variable (s : State) (c : TempCh) (x : TempChannel)

@[simp] theorem State.setTemp_ports : (s.setTemp c x).ports = s.ports := rfl
@[simp] theorem State.setTemp_demands : (s.setTemp c x).demands = s.demands := rfl
@[simp] theorem State.setTemp_age : (s.setTemp c x).age = s.age := rfl
@[simp] theorem State.setTemp_alloc : (s.setTemp c x).alloc = s.alloc := rfl
@[simp] theorem State.setTemp_valve : (s.setTemp c x).valve = s.valve := rfl
@[simp] theorem State.setTemp_regime : (s.setTemp c x).regime = s.regime := rfl
@[simp] theorem State.setTemp_temps : (s.setTemp c x).temps = put s.temps (tempIx c) x := rfl
@[simp] theorem State.setTemp_flows : (s.setTemp c x).flows = s.flows := rfl
@[simp] theorem State.setTemp_delivered : (s.setTemp c x).delivered = s.delivered := rfl
@[simp] theorem State.setTemp_zones : (s.setTemp c x).zones = s.zones := rfl
@[simp] theorem State.setTemp_shed : (s.setTemp c x).shed = s.shed := rfl
@[simp] theorem State.setTemp_pwm : (s.setTemp c x).pwm = s.pwm := rfl
@[simp] theorem State.setTemp_params : (s.setTemp c x).params = s.params := rfl
@[simp] theorem State.setTemp_setup : (s.setTemp c x).setup = s.setup := rfl
@[simp] theorem State.setTemp_ring : (s.setTemp c x).ring = s.ring := rfl
@[simp] theorem State.setTemp_resetRecord : (s.setTemp c x).resetRecord = s.resetRecord := rfl
@[simp] theorem State.setTemp_hvReady : (s.setTemp c x).hvReady = s.hvReady := rfl
@[simp] theorem State.setTemp_valveAt : (s.setTemp c x).valveAt = s.valveAt := rfl
@[simp] theorem State.setTemp_pending : (s.setTemp c x).pending = s.pending := rfl
@[simp] theorem State.setTemp_timeBase : (s.setTemp c x).timeBase = s.timeBase := rfl

end

section
variable (s : State) (l : Loop) (x : FlowChannel)

@[simp] theorem State.setFlow_ports : (s.setFlow l x).ports = s.ports := rfl
@[simp] theorem State.setFlow_demands : (s.setFlow l x).demands = s.demands := rfl
@[simp] theorem State.setFlow_age : (s.setFlow l x).age = s.age := rfl
@[simp] theorem State.setFlow_alloc : (s.setFlow l x).alloc = s.alloc := rfl
@[simp] theorem State.setFlow_valve : (s.setFlow l x).valve = s.valve := rfl
@[simp] theorem State.setFlow_regime : (s.setFlow l x).regime = s.regime := rfl
@[simp] theorem State.setFlow_temps : (s.setFlow l x).temps = s.temps := rfl
@[simp] theorem State.setFlow_flows : (s.setFlow l x).flows = put s.flows (loopIx l) x := rfl
@[simp] theorem State.setFlow_delivered : (s.setFlow l x).delivered = s.delivered := rfl
@[simp] theorem State.setFlow_zones : (s.setFlow l x).zones = s.zones := rfl
@[simp] theorem State.setFlow_shed : (s.setFlow l x).shed = s.shed := rfl
@[simp] theorem State.setFlow_pwm : (s.setFlow l x).pwm = s.pwm := rfl
@[simp] theorem State.setFlow_params : (s.setFlow l x).params = s.params := rfl
@[simp] theorem State.setFlow_setup : (s.setFlow l x).setup = s.setup := rfl
@[simp] theorem State.setFlow_ring : (s.setFlow l x).ring = s.ring := rfl
@[simp] theorem State.setFlow_resetRecord : (s.setFlow l x).resetRecord = s.resetRecord := rfl
@[simp] theorem State.setFlow_hvReady : (s.setFlow l x).hvReady = s.hvReady := rfl
@[simp] theorem State.setFlow_valveAt : (s.setFlow l x).valveAt = s.valveAt := rfl
@[simp] theorem State.setFlow_pending : (s.setFlow l x).pending = s.pending := rfl
@[simp] theorem State.setFlow_timeBase : (s.setFlow l x).timeBase = s.timeBase := rfl

end

section
variable (s : State) (l : Loop) (x : DeliveredRecord)

@[simp] theorem State.setRecord_ports : (s.setRecord l x).ports = s.ports := rfl
@[simp] theorem State.setRecord_demands : (s.setRecord l x).demands = s.demands := rfl
@[simp] theorem State.setRecord_age : (s.setRecord l x).age = s.age := rfl
@[simp] theorem State.setRecord_alloc : (s.setRecord l x).alloc = s.alloc := rfl
@[simp] theorem State.setRecord_valve : (s.setRecord l x).valve = s.valve := rfl
@[simp] theorem State.setRecord_regime : (s.setRecord l x).regime = s.regime := rfl
@[simp] theorem State.setRecord_temps : (s.setRecord l x).temps = s.temps := rfl
@[simp] theorem State.setRecord_flows : (s.setRecord l x).flows = s.flows := rfl
@[simp] theorem State.setRecord_delivered : (s.setRecord l x).delivered = put s.delivered (loopIx l) x := rfl
@[simp] theorem State.setRecord_zones : (s.setRecord l x).zones = s.zones := rfl
@[simp] theorem State.setRecord_shed : (s.setRecord l x).shed = s.shed := rfl
@[simp] theorem State.setRecord_pwm : (s.setRecord l x).pwm = s.pwm := rfl
@[simp] theorem State.setRecord_params : (s.setRecord l x).params = s.params := rfl
@[simp] theorem State.setRecord_setup : (s.setRecord l x).setup = s.setup := rfl
@[simp] theorem State.setRecord_ring : (s.setRecord l x).ring = s.ring := rfl
@[simp] theorem State.setRecord_resetRecord : (s.setRecord l x).resetRecord = s.resetRecord := rfl
@[simp] theorem State.setRecord_hvReady : (s.setRecord l x).hvReady = s.hvReady := rfl
@[simp] theorem State.setRecord_valveAt : (s.setRecord l x).valveAt = s.valveAt := rfl
@[simp] theorem State.setRecord_pending : (s.setRecord l x).pending = s.pending := rfl
@[simp] theorem State.setRecord_timeBase : (s.setRecord l x).timeBase = s.timeBase := rfl

end

section
variable (s : State) (z : Zone) (x : ZoneMonitor)

@[simp] theorem State.setZone_ports : (s.setZone z x).ports = s.ports := rfl
@[simp] theorem State.setZone_demands : (s.setZone z x).demands = s.demands := rfl
@[simp] theorem State.setZone_age : (s.setZone z x).age = s.age := rfl
@[simp] theorem State.setZone_alloc : (s.setZone z x).alloc = s.alloc := rfl
@[simp] theorem State.setZone_valve : (s.setZone z x).valve = s.valve := rfl
@[simp] theorem State.setZone_regime : (s.setZone z x).regime = s.regime := rfl
@[simp] theorem State.setZone_temps : (s.setZone z x).temps = s.temps := rfl
@[simp] theorem State.setZone_flows : (s.setZone z x).flows = s.flows := rfl
@[simp] theorem State.setZone_delivered : (s.setZone z x).delivered = s.delivered := rfl
@[simp] theorem State.setZone_zones : (s.setZone z x).zones = put s.zones (zoneIx z) x := rfl
@[simp] theorem State.setZone_shed : (s.setZone z x).shed = s.shed := rfl
@[simp] theorem State.setZone_pwm : (s.setZone z x).pwm = s.pwm := rfl
@[simp] theorem State.setZone_params : (s.setZone z x).params = s.params := rfl
@[simp] theorem State.setZone_setup : (s.setZone z x).setup = s.setup := rfl
@[simp] theorem State.setZone_ring : (s.setZone z x).ring = s.ring := rfl
@[simp] theorem State.setZone_resetRecord : (s.setZone z x).resetRecord = s.resetRecord := rfl
@[simp] theorem State.setZone_hvReady : (s.setZone z x).hvReady = s.hvReady := rfl
@[simp] theorem State.setZone_valveAt : (s.setZone z x).valveAt = s.valveAt := rfl
@[simp] theorem State.setZone_pending : (s.setZone z x).pending = s.pending := rfl
@[simp] theorem State.setZone_timeBase : (s.setZone z x).timeBase = s.timeBase := rfl

end

section
variable (s : State) (c : PwmCh) (x : PwmChannel)

@[simp] theorem State.setOut_ports : (s.setOut c x).ports = s.ports := rfl
@[simp] theorem State.setOut_demands : (s.setOut c x).demands = s.demands := rfl
@[simp] theorem State.setOut_age : (s.setOut c x).age = s.age := rfl
@[simp] theorem State.setOut_alloc : (s.setOut c x).alloc = s.alloc := rfl
@[simp] theorem State.setOut_valve : (s.setOut c x).valve = s.valve := rfl
@[simp] theorem State.setOut_regime : (s.setOut c x).regime = s.regime := rfl
@[simp] theorem State.setOut_temps : (s.setOut c x).temps = s.temps := rfl
@[simp] theorem State.setOut_flows : (s.setOut c x).flows = s.flows := rfl
@[simp] theorem State.setOut_delivered : (s.setOut c x).delivered = s.delivered := rfl
@[simp] theorem State.setOut_zones : (s.setOut c x).zones = s.zones := rfl
@[simp] theorem State.setOut_shed : (s.setOut c x).shed = s.shed := rfl
@[simp] theorem State.setOut_pwm : (s.setOut c x).pwm = put s.pwm (pwmIx c) x := rfl
@[simp] theorem State.setOut_params : (s.setOut c x).params = s.params := rfl
@[simp] theorem State.setOut_setup : (s.setOut c x).setup = s.setup := rfl
@[simp] theorem State.setOut_ring : (s.setOut c x).ring = s.ring := rfl
@[simp] theorem State.setOut_resetRecord : (s.setOut c x).resetRecord = s.resetRecord := rfl
@[simp] theorem State.setOut_hvReady : (s.setOut c x).hvReady = s.hvReady := rfl
@[simp] theorem State.setOut_valveAt : (s.setOut c x).valveAt = s.valveAt := rfl
@[simp] theorem State.setOut_pending : (s.setOut c x).pending = s.pending := rfl
@[simp] theorem State.setOut_timeBase : (s.setOut c x).timeBase = s.timeBase := rfl

end

section
variable (s : State) (q : Param) (e : ParamEntry)

@[simp] theorem State.setParam_ports : (s.setParam q e).ports = s.ports := rfl
@[simp] theorem State.setParam_demands : (s.setParam q e).demands = s.demands := rfl
@[simp] theorem State.setParam_age : (s.setParam q e).age = s.age := rfl
@[simp] theorem State.setParam_alloc : (s.setParam q e).alloc = s.alloc := rfl
@[simp] theorem State.setParam_valve : (s.setParam q e).valve = s.valve := rfl
@[simp] theorem State.setParam_regime : (s.setParam q e).regime = s.regime := rfl
@[simp] theorem State.setParam_temps : (s.setParam q e).temps = s.temps := rfl
@[simp] theorem State.setParam_flows : (s.setParam q e).flows = s.flows := rfl
@[simp] theorem State.setParam_delivered : (s.setParam q e).delivered = s.delivered := rfl
@[simp] theorem State.setParam_zones : (s.setParam q e).zones = s.zones := rfl
@[simp] theorem State.setParam_shed : (s.setParam q e).shed = s.shed := rfl
@[simp] theorem State.setParam_pwm : (s.setParam q e).pwm = s.pwm := rfl
@[simp] theorem State.setParam_params : (s.setParam q e).params = put s.params (q.place) e := rfl
@[simp] theorem State.setParam_setup : (s.setParam q e).setup = s.setup := rfl
@[simp] theorem State.setParam_ring : (s.setParam q e).ring = s.ring := rfl
@[simp] theorem State.setParam_resetRecord : (s.setParam q e).resetRecord = s.resetRecord := rfl
@[simp] theorem State.setParam_hvReady : (s.setParam q e).hvReady = s.hvReady := rfl
@[simp] theorem State.setParam_valveAt : (s.setParam q e).valveAt = s.valveAt := rfl
@[simp] theorem State.setParam_pending : (s.setParam q e).pending = s.pending := rfl
@[simp] theorem State.setParam_timeBase : (s.setParam q e).timeBase = s.timeBase := rfl

end

/-! ## A place read after a write of its table -/

theorem State.port_setPort (s : State) (i j : Port) (x : LinkPort) : (s.setPort i x).port j = if j = i then x else s.port j := by
  simp [State.port, State.setPort, get_put]

theorem State.demand_setDemand (s : State) (i j : Fin 15) (x : Demand) : (s.setDemand i x).demand j = if j = i then x else s.demand j := by
  simp [State.demand, State.setDemand, get_put]

theorem State.temp_setTemp (s : State) (i j : TempCh) (x : TempChannel) : (s.setTemp i x).temp j = if j = i then x else s.temp j := by
  simp [State.temp, State.setTemp, get_put]

theorem State.flow_setFlow (s : State) (i j : Loop) (x : FlowChannel) : (s.setFlow i x).flow j = if j = i then x else s.flow j := by
  simp [State.flow, State.setFlow, get_put]

theorem State.record_setRecord (s : State) (i j : Loop) (x : DeliveredRecord) : (s.setRecord i x).record j = if j = i then x else s.record j := by
  simp [State.record, State.setRecord, get_put]

theorem State.zone_setZone (s : State) (i j : Zone) (x : ZoneMonitor) : (s.setZone i x).zone j = if j = i then x else s.zone j := by
  simp [State.zone, State.setZone, get_put]

theorem State.out_setOut (s : State) (i j : PwmCh) (x : PwmChannel) : (s.setOut i x).out j = if j = i then x else s.out j := by
  simp [State.out, State.setOut, get_put]

theorem State.param_setParam (s : State) (i j : Param) (x : ParamEntry) : (s.setParam i x).param j = if j = i then x else s.param j := by
  simp [State.param, State.setParam, get_put, place_inj]

/-! ## An unchanged table reads as before -/

theorem State.port_congr {s t : State} (h : t.ports = s.ports) (i : Port) : t.port i = s.port i := by simp [State.port, h]
theorem State.demand_congr {s t : State} (h : t.demands = s.demands) (i : Fin 15) : t.demand i = s.demand i := by simp [State.demand, h]
theorem State.temp_congr {s t : State} (h : t.temps = s.temps) (i : TempCh) : t.temp i = s.temp i := by simp [State.temp, h]
theorem State.flow_congr {s t : State} (h : t.flows = s.flows) (i : Loop) : t.flow i = s.flow i := by simp [State.flow, h]
theorem State.record_congr {s t : State} (h : t.delivered = s.delivered) (i : Loop) : t.record i = s.record i := by simp [State.record, h]
theorem State.zone_congr {s t : State} (h : t.zones = s.zones) (i : Zone) : t.zone i = s.zone i := by simp [State.zone, h]
theorem State.out_congr {s t : State} (h : t.pwm = s.pwm) (i : PwmCh) : t.out i = s.out i := by simp [State.out, h]
theorem State.param_congr {s t : State} (h : t.params = s.params) (i : Param) : t.param i = s.param i := by simp [State.param, h]
theorem State.num_congr {s t : State} (h : t.params = s.params) (i : Param) : t.num i = s.num i := by simp [State.num, State.param, h]
theorem State.int_congr {s t : State} (h : t.params = s.params) (i : Param) : t.int i = s.int i := by simp [State.int, State.param, h]
theorem State.usable_congr {s t : State} (h : t.temps = s.temps) (i : TempCh) : t.usable i = s.usable i := by simp [State.usable, State.temp, h]
theorem State.tempValue_congr {s t : State} (h : t.temps = s.temps) (i : TempCh) : t.tempValue i = s.tempValue i := by simp [State.tempValue, State.temp, h]

end Sys2Proof.Machine
end

