-- ==== Sys2Proof/Laws/Frames.lean ====
section
/-!
SUPPORT. What each shared operation leaves alone: one lemma for each field that an operation never changes.
-/

namespace Sys2Proof.Machine

/-- What every step of a fold keeps, the fold keeps. -/
theorem foldl_keeps {α β : Type} (g : State → β) (f : State → α → State) (h : ∀ s a, g (f s a) = g s) (l : List α)
    (s : State) : g (l.foldl f s) = g s := by
  induction l generalizing s with
  | nil => rfl
  | cons a l ih => rw [List.foldl_cons, ih, h]

@[simp] theorem State.notify_frame (s : State) (n : Notice) (p : Port) :
    (s.notify n p).demands = s.demands ∧ (s.notify n p).age = s.age ∧ (s.notify n p).alloc = s.alloc ∧ (s.notify
    n p).valve = s.valve ∧ (s.notify n p).regime = s.regime ∧ (s.notify n p).temps = s.temps ∧ (s.notify n
    p).flows = s.flows ∧ (s.notify n p).delivered = s.delivered ∧ (s.notify n p).zones = s.zones ∧ (s.notify n
    p).shed = s.shed ∧ (s.notify n p).pwm = s.pwm ∧ (s.notify n p).params = s.params ∧ (s.notify n p).setup =
    s.setup ∧ (s.notify n p).ring = s.ring ∧ (s.notify n p).resetRecord = s.resetRecord ∧ (s.notify n p).hvReady
    = s.hvReady ∧ (s.notify n p).valveAt = s.valveAt ∧ (s.notify n p).pending = s.pending ∧ (s.notify n
    p).timeBase = s.timeBase := by
  unfold State.notify; simp

@[simp] theorem State.notifyAll_frame (s : State) (n : Notice) :
    (s.notifyAll n).demands = s.demands ∧ (s.notifyAll n).age = s.age ∧ (s.notifyAll n).alloc = s.alloc ∧
    (s.notifyAll n).valve = s.valve ∧ (s.notifyAll n).regime = s.regime ∧ (s.notifyAll n).temps = s.temps ∧
    (s.notifyAll n).flows = s.flows ∧ (s.notifyAll n).delivered = s.delivered ∧ (s.notifyAll n).zones = s.zones
    ∧ (s.notifyAll n).shed = s.shed ∧ (s.notifyAll n).pwm = s.pwm ∧ (s.notifyAll n).params = s.params ∧
    (s.notifyAll n).setup = s.setup ∧ (s.notifyAll n).ring = s.ring ∧ (s.notifyAll n).resetRecord =
    s.resetRecord ∧ (s.notifyAll n).hvReady = s.hvReady ∧ (s.notifyAll n).valveAt = s.valveAt ∧ (s.notifyAll
    n).pending = s.pending ∧ (s.notifyAll n).timeBase = s.timeBase := by
  unfold State.notifyAll; simp

@[simp] theorem State.dormantUpkeep_frame (s : State) :
    (s.dormantUpkeep).ports = s.ports ∧ (s.dormantUpkeep).demands = s.demands ∧ (s.dormantUpkeep).age = s.age ∧
    (s.dormantUpkeep).alloc = s.alloc ∧ (s.dormantUpkeep).valve = s.valve ∧ (s.dormantUpkeep).temps = s.temps ∧
    (s.dormantUpkeep).flows = s.flows ∧ (s.dormantUpkeep).delivered = s.delivered ∧ (s.dormantUpkeep).zones =
    s.zones ∧ (s.dormantUpkeep).shed = s.shed ∧ (s.dormantUpkeep).pwm = s.pwm ∧ (s.dormantUpkeep).params =
    s.params ∧ (s.dormantUpkeep).setup = s.setup ∧ (s.dormantUpkeep).ring = s.ring ∧
    (s.dormantUpkeep).resetRecord = s.resetRecord ∧ (s.dormantUpkeep).hvReady = s.hvReady ∧
    (s.dormantUpkeep).valveAt = s.valveAt ∧ (s.dormantUpkeep).pending = s.pending ∧ (s.dormantUpkeep).timeBase =
    s.timeBase := by
  unfold State.dormantUpkeep; (repeat' split) <;> simp

@[simp] theorem State.freeSlot_frame (s : State) (i : Fin 15) :
    (s.freeSlot i).ports = s.ports ∧ (s.freeSlot i).alloc = s.alloc ∧ (s.freeSlot i).valve = s.valve ∧
    (s.freeSlot i).temps = s.temps ∧ (s.freeSlot i).flows = s.flows ∧ (s.freeSlot i).delivered = s.delivered ∧
    (s.freeSlot i).zones = s.zones ∧ (s.freeSlot i).shed = s.shed ∧ (s.freeSlot i).pwm = s.pwm ∧ (s.freeSlot
    i).params = s.params ∧ (s.freeSlot i).setup = s.setup ∧ (s.freeSlot i).ring = s.ring ∧ (s.freeSlot
    i).resetRecord = s.resetRecord ∧ (s.freeSlot i).hvReady = s.hvReady ∧ (s.freeSlot i).valveAt = s.valveAt ∧
    (s.freeSlot i).pending = s.pending ∧ (s.freeSlot i).timeBase = s.timeBase := by
  unfold State.freeSlot; simp

@[simp] theorem State.writeDemand_frame (s : State) (i : Fin 15) (d : Demand) (k : Bool) :
    (s.writeDemand i d k).ports = s.ports ∧ (s.writeDemand i d k).alloc = s.alloc ∧ (s.writeDemand i d k).valve
    = s.valve ∧ (s.writeDemand i d k).temps = s.temps ∧ (s.writeDemand i d k).flows = s.flows ∧ (s.writeDemand i
    d k).delivered = s.delivered ∧ (s.writeDemand i d k).zones = s.zones ∧ (s.writeDemand i d k).shed = s.shed ∧
    (s.writeDemand i d k).pwm = s.pwm ∧ (s.writeDemand i d k).params = s.params ∧ (s.writeDemand i d k).setup =
    s.setup ∧ (s.writeDemand i d k).ring = s.ring ∧ (s.writeDemand i d k).resetRecord = s.resetRecord ∧
    (s.writeDemand i d k).hvReady = s.hvReady ∧ (s.writeDemand i d k).valveAt = s.valveAt ∧ (s.writeDemand i d
    k).pending = s.pending ∧ (s.writeDemand i d k).timeBase = s.timeBase := by
  unfold State.writeDemand; (repeat' split) <;> simp

@[simp] theorem State.createSynthetic_frame (s : State) (z : Zone) :
    (s.createSynthetic z).ports = s.ports ∧ (s.createSynthetic z).alloc = s.alloc ∧ (s.createSynthetic z).valve
    = s.valve ∧ (s.createSynthetic z).temps = s.temps ∧ (s.createSynthetic z).flows = s.flows ∧
    (s.createSynthetic z).delivered = s.delivered ∧ (s.createSynthetic z).zones = s.zones ∧ (s.createSynthetic
    z).shed = s.shed ∧ (s.createSynthetic z).pwm = s.pwm ∧ (s.createSynthetic z).params = s.params ∧
    (s.createSynthetic z).setup = s.setup ∧ (s.createSynthetic z).ring = s.ring ∧ (s.createSynthetic
    z).resetRecord = s.resetRecord ∧ (s.createSynthetic z).hvReady = s.hvReady ∧ (s.createSynthetic z).valveAt =
    s.valveAt ∧ (s.createSynthetic z).pending = s.pending ∧ (s.createSynthetic z).timeBase = s.timeBase := by
  unfold State.createSynthetic; simp

@[simp] theorem State.withdrawSynthetic_frame (s : State) (z : Zone) :
    (s.withdrawSynthetic z).ports = s.ports ∧ (s.withdrawSynthetic z).alloc = s.alloc ∧ (s.withdrawSynthetic
    z).valve = s.valve ∧ (s.withdrawSynthetic z).temps = s.temps ∧ (s.withdrawSynthetic z).flows = s.flows ∧
    (s.withdrawSynthetic z).delivered = s.delivered ∧ (s.withdrawSynthetic z).zones = s.zones ∧
    (s.withdrawSynthetic z).shed = s.shed ∧ (s.withdrawSynthetic z).pwm = s.pwm ∧ (s.withdrawSynthetic z).params
    = s.params ∧ (s.withdrawSynthetic z).setup = s.setup ∧ (s.withdrawSynthetic z).ring = s.ring ∧
    (s.withdrawSynthetic z).resetRecord = s.resetRecord ∧ (s.withdrawSynthetic z).hvReady = s.hvReady ∧
    (s.withdrawSynthetic z).valveAt = s.valveAt ∧ (s.withdrawSynthetic z).pending = s.pending ∧
    (s.withdrawSynthetic z).timeBase = s.timeBase := by
  unfold State.withdrawSynthetic; (repeat' split) <;> simp

@[simp] theorem State.changeRegime_frame (s : State) (r : Regime) :
    (s.changeRegime r).demands = s.demands ∧ (s.changeRegime r).age = s.age ∧ (s.changeRegime r).alloc = s.alloc
    ∧ (s.changeRegime r).valve = s.valve ∧ (s.changeRegime r).temps = s.temps ∧ (s.changeRegime r).flows =
    s.flows ∧ (s.changeRegime r).delivered = s.delivered ∧ (s.changeRegime r).zones = s.zones ∧ (s.changeRegime
    r).shed = s.shed ∧ (s.changeRegime r).pwm = s.pwm ∧ (s.changeRegime r).params = s.params ∧ (s.changeRegime
    r).setup = s.setup ∧ (s.changeRegime r).ring = s.ring ∧ (s.changeRegime r).resetRecord = s.resetRecord ∧
    (s.changeRegime r).hvReady = s.hvReady ∧ (s.changeRegime r).valveAt = s.valveAt ∧ (s.changeRegime r).pending
    = s.pending ∧ (s.changeRegime r).timeBase = s.timeBase := by
  unfold State.changeRegime; (repeat' split) <;> simp

@[simp] theorem State.settleChargePending_frame (s : State) :
    (s.settleChargePending).ports = s.ports ∧ (s.settleChargePending).demands = s.demands ∧
    (s.settleChargePending).age = s.age ∧ (s.settleChargePending).alloc = s.alloc ∧
    (s.settleChargePending).valve = s.valve ∧ (s.settleChargePending).temps = s.temps ∧
    (s.settleChargePending).flows = s.flows ∧ (s.settleChargePending).delivered = s.delivered ∧
    (s.settleChargePending).zones = s.zones ∧ (s.settleChargePending).shed = s.shed ∧
    (s.settleChargePending).pwm = s.pwm ∧ (s.settleChargePending).params = s.params ∧
    (s.settleChargePending).setup = s.setup ∧ (s.settleChargePending).ring = s.ring ∧
    (s.settleChargePending).resetRecord = s.resetRecord ∧ (s.settleChargePending).hvReady = s.hvReady ∧
    (s.settleChargePending).valveAt = s.valveAt ∧ (s.settleChargePending).pending = s.pending ∧
    (s.settleChargePending).timeBase = s.timeBase := by
  unfold State.settleChargePending; simp

@[simp] theorem State.resolve_frame (s : State) :
    (s.resolve).demands = s.demands ∧ (s.resolve).age = s.age ∧ (s.resolve).alloc = s.alloc ∧ (s.resolve).valve
    = s.valve ∧ (s.resolve).temps = s.temps ∧ (s.resolve).flows = s.flows ∧ (s.resolve).delivered = s.delivered
    ∧ (s.resolve).zones = s.zones ∧ (s.resolve).shed = s.shed ∧ (s.resolve).pwm = s.pwm ∧ (s.resolve).params =
    s.params ∧ (s.resolve).setup = s.setup ∧ (s.resolve).ring = s.ring ∧ (s.resolve).resetRecord = s.resetRecord
    ∧ (s.resolve).hvReady = s.hvReady ∧ (s.resolve).valveAt = s.valveAt ∧ (s.resolve).pending = s.pending ∧
    (s.resolve).timeBase = s.timeBase := by
  unfold State.resolve; simp

@[simp] theorem State.resolveInRun_frame (s : State) :
    (s.resolveInRun).demands = s.demands ∧ (s.resolveInRun).age = s.age ∧ (s.resolveInRun).alloc = s.alloc ∧
    (s.resolveInRun).valve = s.valve ∧ (s.resolveInRun).temps = s.temps ∧ (s.resolveInRun).flows = s.flows ∧
    (s.resolveInRun).delivered = s.delivered ∧ (s.resolveInRun).zones = s.zones ∧ (s.resolveInRun).shed = s.shed
    ∧ (s.resolveInRun).pwm = s.pwm ∧ (s.resolveInRun).params = s.params ∧ (s.resolveInRun).setup = s.setup ∧
    (s.resolveInRun).ring = s.ring ∧ (s.resolveInRun).resetRecord = s.resetRecord ∧ (s.resolveInRun).hvReady =
    s.hvReady ∧ (s.resolveInRun).valveAt = s.valveAt ∧ (s.resolveInRun).pending = s.pending ∧
    (s.resolveInRun).timeBase = s.timeBase := by
  unfold State.resolveInRun; (repeat' split) <;> simp

@[simp] theorem State.wake_frame (s : State) :
    (s.wake).demands = s.demands ∧ (s.wake).age = s.age ∧ (s.wake).alloc = s.alloc ∧ (s.wake).valve = s.valve ∧
    (s.wake).temps = s.temps ∧ (s.wake).flows = s.flows ∧ (s.wake).delivered = s.delivered ∧ (s.wake).zones =
    s.zones ∧ (s.wake).shed = s.shed ∧ (s.wake).pwm = s.pwm ∧ (s.wake).params = s.params ∧ (s.wake).setup =
    s.setup ∧ (s.wake).ring = s.ring ∧ (s.wake).resetRecord = s.resetRecord ∧ (s.wake).hvReady = s.hvReady ∧
    (s.wake).valveAt = s.valveAt ∧ (s.wake).pending = s.pending ∧ (s.wake).timeBase = s.timeBase := by
  unfold State.wake; (repeat' split) <;> simp

@[simp] theorem State.arrive_frame (s : State) :
    (s.arrive).demands = s.demands ∧ (s.arrive).age = s.age ∧ (s.arrive).alloc = s.alloc ∧ (s.arrive).regime =
    s.regime ∧ (s.arrive).temps = s.temps ∧ (s.arrive).flows = s.flows ∧ (s.arrive).delivered = s.delivered ∧
    (s.arrive).zones = s.zones ∧ (s.arrive).shed = s.shed ∧ (s.arrive).pwm = s.pwm ∧ (s.arrive).params =
    s.params ∧ (s.arrive).setup = s.setup ∧ (s.arrive).ring = s.ring ∧ (s.arrive).resetRecord = s.resetRecord ∧
    (s.arrive).hvReady = s.hvReady ∧ (s.arrive).valveAt = s.valveAt ∧ (s.arrive).pending = s.pending ∧
    (s.arrive).timeBase = s.timeBase := by
  unfold State.arrive; simp

@[simp] theorem State.beginTravel_frame (s : State) (f g : Mode) (n : Nat) :
    (s.beginTravel f g n).ports = s.ports ∧ (s.beginTravel f g n).demands = s.demands ∧ (s.beginTravel f g
    n).age = s.age ∧ (s.beginTravel f g n).alloc = s.alloc ∧ (s.beginTravel f g n).regime = s.regime ∧
    (s.beginTravel f g n).temps = s.temps ∧ (s.beginTravel f g n).flows = s.flows ∧ (s.beginTravel f g
    n).delivered = s.delivered ∧ (s.beginTravel f g n).zones = s.zones ∧ (s.beginTravel f g n).shed = s.shed ∧
    (s.beginTravel f g n).pwm = s.pwm ∧ (s.beginTravel f g n).params = s.params ∧ (s.beginTravel f g n).setup =
    s.setup ∧ (s.beginTravel f g n).ring = s.ring ∧ (s.beginTravel f g n).resetRecord = s.resetRecord ∧
    (s.beginTravel f g n).hvReady = s.hvReady ∧ (s.beginTravel f g n).valveAt = s.valveAt ∧ (s.beginTravel f g
    n).pending = s.pending ∧ (s.beginTravel f g n).timeBase = s.timeBase := by
  unfold State.beginTravel; (repeat' split) <;> simp

@[simp] theorem State.arriveAtEntry_frame (s : State) :
    (s.arriveAtEntry).demands = s.demands ∧ (s.arriveAtEntry).age = s.age ∧ (s.arriveAtEntry).alloc = s.alloc ∧
    (s.arriveAtEntry).regime = s.regime ∧ (s.arriveAtEntry).temps = s.temps ∧ (s.arriveAtEntry).flows = s.flows
    ∧ (s.arriveAtEntry).delivered = s.delivered ∧ (s.arriveAtEntry).zones = s.zones ∧ (s.arriveAtEntry).shed =
    s.shed ∧ (s.arriveAtEntry).pwm = s.pwm ∧ (s.arriveAtEntry).params = s.params ∧ (s.arriveAtEntry).setup =
    s.setup ∧ (s.arriveAtEntry).ring = s.ring ∧ (s.arriveAtEntry).resetRecord = s.resetRecord ∧
    (s.arriveAtEntry).hvReady = s.hvReady ∧ (s.arriveAtEntry).valveAt = s.valveAt ∧ (s.arriveAtEntry).pending =
    s.pending ∧ (s.arriveAtEntry).timeBase = s.timeBase := by
  unfold State.arriveAtEntry; (repeat' split) <;> simp

@[simp] theorem State.clearValve_frame (s : State) :
    (s.clearValve).demands = s.demands ∧ (s.clearValve).age = s.age ∧ (s.clearValve).alloc = s.alloc ∧
    (s.clearValve).regime = s.regime ∧ (s.clearValve).temps = s.temps ∧ (s.clearValve).flows = s.flows ∧
    (s.clearValve).delivered = s.delivered ∧ (s.clearValve).zones = s.zones ∧ (s.clearValve).shed = s.shed ∧
    (s.clearValve).pwm = s.pwm ∧ (s.clearValve).params = s.params ∧ (s.clearValve).setup = s.setup ∧
    (s.clearValve).ring = s.ring ∧ (s.clearValve).resetRecord = s.resetRecord ∧ (s.clearValve).hvReady =
    s.hvReady ∧ (s.clearValve).valveAt = s.valveAt ∧ (s.clearValve).pending = s.pending ∧ (s.clearValve).timeBase
    = s.timeBase := by
  unfold State.clearValve; simp

@[simp] theorem State.selectMode_frame (s : State) :
    (s.selectMode).demands = s.demands ∧ (s.selectMode).age = s.age ∧ (s.selectMode).alloc = s.alloc ∧
    (s.selectMode).regime = s.regime ∧ (s.selectMode).temps = s.temps ∧ (s.selectMode).flows = s.flows ∧
    (s.selectMode).delivered = s.delivered ∧ (s.selectMode).zones = s.zones ∧ (s.selectMode).shed = s.shed ∧
    (s.selectMode).pwm = s.pwm ∧ (s.selectMode).params = s.params ∧ (s.selectMode).setup = s.setup ∧
    (s.selectMode).ring = s.ring ∧ (s.selectMode).resetRecord = s.resetRecord ∧ (s.selectMode).hvReady =
    s.hvReady ∧ (s.selectMode).valveAt = s.valveAt ∧ (s.selectMode).pending = s.pending ∧ (s.selectMode).timeBase
    = s.timeBase := by
  unfold State.selectMode; (repeat' split) <;> simp

@[simp] theorem State.shedUpkeep_frame (s : State) :
    (s.shedUpkeep).ports = s.ports ∧ (s.shedUpkeep).demands = s.demands ∧ (s.shedUpkeep).age = s.age ∧
    (s.shedUpkeep).alloc = s.alloc ∧ (s.shedUpkeep).valve = s.valve ∧ (s.shedUpkeep).regime = s.regime ∧
    (s.shedUpkeep).temps = s.temps ∧ (s.shedUpkeep).flows = s.flows ∧ (s.shedUpkeep).delivered = s.delivered ∧
    (s.shedUpkeep).zones = s.zones ∧ (s.shedUpkeep).pwm = s.pwm ∧ (s.shedUpkeep).params = s.params ∧
    (s.shedUpkeep).setup = s.setup ∧ (s.shedUpkeep).ring = s.ring ∧ (s.shedUpkeep).resetRecord = s.resetRecord ∧
    (s.shedUpkeep).hvReady = s.hvReady ∧ (s.shedUpkeep).valveAt = s.valveAt ∧ (s.shedUpkeep).pending = s.pending
    ∧ (s.shedUpkeep).timeBase = s.timeBase := by
  unfold State.shedUpkeep; simp

@[simp] theorem State.tripAction_frame (s : State) (z : Zone) :
    (s.tripAction z).alloc = s.alloc ∧ (s.tripAction z).valve = s.valve ∧ (s.tripAction z).temps = s.temps ∧
    (s.tripAction z).flows = s.flows ∧ (s.tripAction z).delivered = s.delivered ∧ (s.tripAction z).zones =
    s.zones ∧ (s.tripAction z).shed = s.shed ∧ (s.tripAction z).pwm = s.pwm ∧ (s.tripAction z).params = s.params
    ∧ (s.tripAction z).setup = s.setup ∧ (s.tripAction z).ring = s.ring ∧ (s.tripAction z).resetRecord =
    s.resetRecord ∧ (s.tripAction z).hvReady = s.hvReady ∧ (s.tripAction z).valveAt = s.valveAt ∧ (s.tripAction
    z).pending = s.pending ∧ (s.tripAction z).timeBase = s.timeBase := by
  unfold State.tripAction; (repeat' split) <;> simp

@[simp] theorem State.tripAwake_frame (s : State) (z : Zone) :
    (s.tripAwake z).alloc = s.alloc ∧ (s.tripAwake z).valve = s.valve ∧ (s.tripAwake z).temps = s.temps ∧
    (s.tripAwake z).flows = s.flows ∧ (s.tripAwake z).delivered = s.delivered ∧ (s.tripAwake z).pwm = s.pwm ∧
    (s.tripAwake z).params = s.params ∧ (s.tripAwake z).setup = s.setup ∧ (s.tripAwake z).ring = s.ring ∧
    (s.tripAwake z).resetRecord = s.resetRecord ∧ (s.tripAwake z).hvReady = s.hvReady ∧ (s.tripAwake z).valveAt
    = s.valveAt ∧ (s.tripAwake z).pending = s.pending ∧ (s.tripAwake z).timeBase = s.timeBase := by
  unfold State.tripAwake; simp

@[simp] theorem State.trip_frame (s : State) (z : Zone) :
    (s.trip z).alloc = s.alloc ∧ (s.trip z).valve = s.valve ∧ (s.trip z).temps = s.temps ∧ (s.trip z).flows =
    s.flows ∧ (s.trip z).delivered = s.delivered ∧ (s.trip z).pwm = s.pwm ∧ (s.trip z).params = s.params ∧
    (s.trip z).setup = s.setup ∧ (s.trip z).ring = s.ring ∧ (s.trip z).resetRecord = s.resetRecord ∧ (s.trip
    z).hvReady = s.hvReady ∧ (s.trip z).valveAt = s.valveAt ∧ (s.trip z).pending = s.pending ∧ (s.trip z).timeBase
    = s.timeBase := by
  unfold State.trip; (repeat' split) <;> simp

@[simp] theorem State.endSynth_frame (s : State) (z : Zone) (o : GuardAction) :
    (s.endSynth z o).ports = s.ports ∧ (s.endSynth z o).alloc = s.alloc ∧ (s.endSynth z o).valve = s.valve ∧
    (s.endSynth z o).temps = s.temps ∧ (s.endSynth z o).flows = s.flows ∧ (s.endSynth z o).delivered =
    s.delivered ∧ (s.endSynth z o).zones = s.zones ∧ (s.endSynth z o).shed = s.shed ∧ (s.endSynth z o).pwm =
    s.pwm ∧ (s.endSynth z o).params = s.params ∧ (s.endSynth z o).setup = s.setup ∧ (s.endSynth z o).ring =
    s.ring ∧ (s.endSynth z o).resetRecord = s.resetRecord ∧ (s.endSynth z o).hvReady = s.hvReady ∧ (s.endSynth z
    o).valveAt = s.valveAt ∧ (s.endSynth z o).pending = s.pending ∧ (s.endSynth z o).timeBase = s.timeBase := by
  unfold State.endSynth; (repeat' split) <;> simp

@[simp] theorem State.returnToMatch_frame (s : State) (z : Zone) (o : GuardAction) :
    (s.returnToMatch z o).ports = s.ports ∧ (s.returnToMatch z o).alloc = s.alloc ∧ (s.returnToMatch z o).valve
    = s.valve ∧ (s.returnToMatch z o).temps = s.temps ∧ (s.returnToMatch z o).flows = s.flows ∧ (s.returnToMatch
    z o).delivered = s.delivered ∧ (s.returnToMatch z o).pwm = s.pwm ∧ (s.returnToMatch z o).params = s.params ∧
    (s.returnToMatch z o).setup = s.setup ∧ (s.returnToMatch z o).ring = s.ring ∧ (s.returnToMatch z
    o).resetRecord = s.resetRecord ∧ (s.returnToMatch z o).hvReady = s.hvReady ∧ (s.returnToMatch z o).valveAt =
    s.valveAt ∧ (s.returnToMatch z o).pending = s.pending ∧ (s.returnToMatch z o).timeBase = s.timeBase := by
  unfold State.returnToMatch; simp

@[simp] theorem State.evaluate_frame (s : State) (z : Zone) :
    (s.evaluate z).alloc = s.alloc ∧ (s.evaluate z).valve = s.valve ∧ (s.evaluate z).temps = s.temps ∧
    (s.evaluate z).flows = s.flows ∧ (s.evaluate z).delivered = s.delivered ∧ (s.evaluate z).pwm = s.pwm ∧
    (s.evaluate z).params = s.params ∧ (s.evaluate z).setup = s.setup ∧ (s.evaluate z).ring = s.ring ∧
    (s.evaluate z).resetRecord = s.resetRecord ∧ (s.evaluate z).hvReady = s.hvReady ∧ (s.evaluate z).valveAt =
    s.valveAt ∧ (s.evaluate z).pending = s.pending ∧ (s.evaluate z).timeBase = s.timeBase := by
  unfold State.evaluate; (repeat' split) <;> simp

@[simp] theorem State.withConditions_frame (s : State) (z : Zone) (c : Conditions) :
    (s.withConditions z c).alloc = s.alloc ∧ (s.withConditions z c).valve = s.valve ∧ (s.withConditions z
    c).temps = s.temps ∧ (s.withConditions z c).flows = s.flows ∧ (s.withConditions z c).delivered = s.delivered
    ∧ (s.withConditions z c).pwm = s.pwm ∧ (s.withConditions z c).params = s.params ∧ (s.withConditions z
    c).setup = s.setup ∧ (s.withConditions z c).ring = s.ring ∧ (s.withConditions z c).resetRecord =
    s.resetRecord ∧ (s.withConditions z c).hvReady = s.hvReady ∧ (s.withConditions z c).valveAt = s.valveAt ∧
    (s.withConditions z c).pending = s.pending ∧ (s.withConditions z c).timeBase = s.timeBase := by
  unfold State.withConditions; (repeat' split) <;> simp

@[simp] theorem State.guardWritten_frame (s : State) (z : Zone) (o : GuardAction) :
    (s.guardWritten z o).alloc = s.alloc ∧ (s.guardWritten z o).valve = s.valve ∧ (s.guardWritten z o).temps =
    s.temps ∧ (s.guardWritten z o).flows = s.flows ∧ (s.guardWritten z o).delivered = s.delivered ∧
    (s.guardWritten z o).pwm = s.pwm ∧ (s.guardWritten z o).params = s.params ∧ (s.guardWritten z o).setup =
    s.setup ∧ (s.guardWritten z o).ring = s.ring ∧ (s.guardWritten z o).resetRecord = s.resetRecord ∧
    (s.guardWritten z o).hvReady = s.hvReady ∧ (s.guardWritten z o).valveAt = s.valveAt ∧ (s.guardWritten z
    o).pending = s.pending ∧ (s.guardWritten z o).timeBase = s.timeBase := by
  unfold State.guardWritten; (repeat' split) <;> simp

@[simp] theorem State.armGuard_frame (s : State) (z : Zone) :
    (s.armGuard z).alloc = s.alloc ∧ (s.armGuard z).valve = s.valve ∧ (s.armGuard z).temps = s.temps ∧
    (s.armGuard z).flows = s.flows ∧ (s.armGuard z).delivered = s.delivered ∧ (s.armGuard z).pwm = s.pwm ∧
    (s.armGuard z).params = s.params ∧ (s.armGuard z).setup = s.setup ∧ (s.armGuard z).ring = s.ring ∧
    (s.armGuard z).resetRecord = s.resetRecord ∧ (s.armGuard z).hvReady = s.hvReady ∧ (s.armGuard z).valveAt =
    s.valveAt ∧ (s.armGuard z).pending = s.pending ∧ (s.armGuard z).timeBase = s.timeBase := by
  unfold State.armGuard; simp

@[simp] theorem State.refreshTemperature_frame (s : State) (z : Zone) :
    (s.refreshTemperature z).alloc = s.alloc ∧ (s.refreshTemperature z).valve = s.valve ∧ (s.refreshTemperature
    z).temps = s.temps ∧ (s.refreshTemperature z).flows = s.flows ∧ (s.refreshTemperature z).delivered =
    s.delivered ∧ (s.refreshTemperature z).pwm = s.pwm ∧ (s.refreshTemperature z).params = s.params ∧
    (s.refreshTemperature z).setup = s.setup ∧ (s.refreshTemperature z).ring = s.ring ∧ (s.refreshTemperature
    z).resetRecord = s.resetRecord ∧ (s.refreshTemperature z).hvReady = s.hvReady ∧ (s.refreshTemperature
    z).valveAt = s.valveAt ∧ (s.refreshTemperature z).pending = s.pending ∧ (s.refreshTemperature z).timeBase =
    s.timeBase := by
  unfold State.refreshTemperature; simp

@[simp] theorem State.refreshBlind_frame (s : State) (z : Zone) :
    (s.refreshBlind z).alloc = s.alloc ∧ (s.refreshBlind z).valve = s.valve ∧ (s.refreshBlind z).temps = s.temps
    ∧ (s.refreshBlind z).flows = s.flows ∧ (s.refreshBlind z).delivered = s.delivered ∧ (s.refreshBlind z).pwm =
    s.pwm ∧ (s.refreshBlind z).params = s.params ∧ (s.refreshBlind z).setup = s.setup ∧ (s.refreshBlind z).ring
    = s.ring ∧ (s.refreshBlind z).resetRecord = s.resetRecord ∧ (s.refreshBlind z).hvReady = s.hvReady ∧
    (s.refreshBlind z).valveAt = s.valveAt ∧ (s.refreshBlind z).pending = s.pending ∧ (s.refreshBlind z).timeBase
    = s.timeBase := by
  unfold State.refreshBlind; simp

@[simp] theorem State.refreshInit_frame (s : State) (z : Zone) :
    (s.refreshInit z).alloc = s.alloc ∧ (s.refreshInit z).valve = s.valve ∧ (s.refreshInit z).temps = s.temps ∧
    (s.refreshInit z).flows = s.flows ∧ (s.refreshInit z).delivered = s.delivered ∧ (s.refreshInit z).pwm =
    s.pwm ∧ (s.refreshInit z).params = s.params ∧ (s.refreshInit z).setup = s.setup ∧ (s.refreshInit z).ring =
    s.ring ∧ (s.refreshInit z).resetRecord = s.resetRecord ∧ (s.refreshInit z).hvReady = s.hvReady ∧
    (s.refreshInit z).valveAt = s.valveAt ∧ (s.refreshInit z).pending = s.pending ∧ (s.refreshInit z).timeBase =
    s.timeBase := by
  unfold State.refreshInit; simp

@[simp] theorem State.refreshStall_frame (s : State) (l : Loop) :
    (s.refreshStall l).alloc = s.alloc ∧ (s.refreshStall l).valve = s.valve ∧ (s.refreshStall l).temps = s.temps
    ∧ (s.refreshStall l).flows = s.flows ∧ (s.refreshStall l).delivered = s.delivered ∧ (s.refreshStall l).pwm =
    s.pwm ∧ (s.refreshStall l).params = s.params ∧ (s.refreshStall l).setup = s.setup ∧ (s.refreshStall l).ring
    = s.ring ∧ (s.refreshStall l).resetRecord = s.resetRecord ∧ (s.refreshStall l).hvReady = s.hvReady ∧
    (s.refreshStall l).valveAt = s.valveAt ∧ (s.refreshStall l).pending = s.pending ∧ (s.refreshStall l).timeBase
    = s.timeBase := by
  unfold State.refreshStall; simp

@[simp] theorem State.channelsToInit_frame (s : State) :
    (s.channelsToInit).alloc = s.alloc ∧ (s.channelsToInit).valve = s.valve ∧ (s.channelsToInit).flows = s.flows
    ∧ (s.channelsToInit).delivered = s.delivered ∧ (s.channelsToInit).pwm = s.pwm ∧ (s.channelsToInit).params =
    s.params ∧ (s.channelsToInit).setup = s.setup ∧ (s.channelsToInit).ring = s.ring ∧
    (s.channelsToInit).resetRecord = s.resetRecord ∧ (s.channelsToInit).hvReady = s.hvReady ∧
    (s.channelsToInit).valveAt = s.valveAt ∧ (s.channelsToInit).pending = s.pending ∧ (s.channelsToInit).timeBase
    = s.timeBase := by
  unfold State.channelsToInit; simp

@[simp] theorem convertChannel_frame (s : State) (c : TempCh) (v : BitVec 12) :
    (convertChannel s c v).alloc = s.alloc ∧ (convertChannel s c v).valve = s.valve ∧ (convertChannel s c
    v).flows = s.flows ∧ (convertChannel s c v).delivered = s.delivered ∧ (convertChannel s c v).pwm = s.pwm ∧
    (convertChannel s c v).params = s.params ∧ (convertChannel s c v).setup = s.setup ∧ (convertChannel s c
    v).ring = s.ring ∧ (convertChannel s c v).resetRecord = s.resetRecord ∧ (convertChannel s c v).hvReady =
    s.hvReady ∧ (convertChannel s c v).valveAt = s.valveAt ∧ (convertChannel s c v).pending = s.pending ∧
    (convertChannel s c v).timeBase = s.timeBase := by
  unfold convertChannel; (repeat' split) <;> simp

@[simp] theorem expireHold_frame (s : State) (c : TempCh) :
    (expireHold s c).alloc = s.alloc ∧ (expireHold s c).valve = s.valve ∧ (expireHold s c).flows = s.flows ∧
    (expireHold s c).delivered = s.delivered ∧ (expireHold s c).pwm = s.pwm ∧ (expireHold s c).params = s.params
    ∧ (expireHold s c).setup = s.setup ∧ (expireHold s c).ring = s.ring ∧ (expireHold s c).resetRecord =
    s.resetRecord ∧ (expireHold s c).hvReady = s.hvReady ∧ (expireHold s c).valveAt = s.valveAt ∧ (expireHold s
    c).pending = s.pending ∧ (expireHold s c).timeBase = s.timeBase := by
  unfold expireHold; (repeat' split) <;> simp

@[simp] theorem State.updateFlow_frame (s : State) (l : Loop) (c : FlowChannel) :
    (s.updateFlow l c).alloc = s.alloc ∧ (s.updateFlow l c).valve = s.valve ∧ (s.updateFlow l c).temps = s.temps
    ∧ (s.updateFlow l c).delivered = s.delivered ∧ (s.updateFlow l c).pwm = s.pwm ∧ (s.updateFlow l c).params =
    s.params ∧ (s.updateFlow l c).setup = s.setup ∧ (s.updateFlow l c).ring = s.ring ∧ (s.updateFlow l
    c).resetRecord = s.resetRecord ∧ (s.updateFlow l c).hvReady = s.hvReady ∧ (s.updateFlow l c).valveAt =
    s.valveAt ∧ (s.updateFlow l c).pending = s.pending ∧ (s.updateFlow l c).timeBase = s.timeBase := by
  unfold State.updateFlow; (repeat' split) <;> simp

@[simp] theorem takeEdge_frame (s : State) (l : Loop) :
    (takeEdge s l).alloc = s.alloc ∧ (takeEdge s l).valve = s.valve ∧ (takeEdge s l).temps = s.temps ∧
    (takeEdge s l).delivered = s.delivered ∧ (takeEdge s l).pwm = s.pwm ∧ (takeEdge s l).params = s.params
    ∧ (takeEdge s l).setup = s.setup ∧ (takeEdge s l).ring = s.ring ∧ (takeEdge s l).resetRecord =
    s.resetRecord ∧ (takeEdge s l).hvReady = s.hvReady ∧ (takeEdge s l).valveAt = s.valveAt ∧
    (takeEdge s l).pending = s.pending ∧ (takeEdge s l).timeBase = s.timeBase := by
  unfold takeEdge; simp

@[simp] theorem expireStall_frame (s : State) (l : Loop) :
    (expireStall s l).alloc = s.alloc ∧ (expireStall s l).valve = s.valve ∧ (expireStall s l).temps = s.temps ∧
    (expireStall s l).delivered = s.delivered ∧ (expireStall s l).pwm = s.pwm ∧ (expireStall s l).params =
    s.params ∧ (expireStall s l).setup = s.setup ∧ (expireStall s l).ring = s.ring ∧ (expireStall s
    l).resetRecord = s.resetRecord ∧ (expireStall s l).hvReady = s.hvReady ∧ (expireStall s l).valveAt =
    s.valveAt ∧ (expireStall s l).pending = s.pending ∧ (expireStall s l).timeBase = s.timeBase := by
  unfold expireStall; (repeat' split) <;> simp

@[simp] theorem State.clearAverage_frame (s : State) (l : Loop) :
    (s.clearAverage l).ports = s.ports ∧ (s.clearAverage l).demands = s.demands ∧ (s.clearAverage l).age = s.age
    ∧ (s.clearAverage l).alloc = s.alloc ∧ (s.clearAverage l).valve = s.valve ∧ (s.clearAverage l).regime =
    s.regime ∧ (s.clearAverage l).temps = s.temps ∧ (s.clearAverage l).delivered = s.delivered ∧ (s.clearAverage
    l).zones = s.zones ∧ (s.clearAverage l).shed = s.shed ∧ (s.clearAverage l).pwm = s.pwm ∧ (s.clearAverage
    l).params = s.params ∧ (s.clearAverage l).setup = s.setup ∧ (s.clearAverage l).ring = s.ring ∧
    (s.clearAverage l).resetRecord = s.resetRecord ∧ (s.clearAverage l).hvReady = s.hvReady ∧ (s.clearAverage
    l).valveAt = s.valveAt ∧ (s.clearAverage l).pending = s.pending ∧ (s.clearAverage l).timeBase = s.timeBase := by
  unfold State.clearAverage; simp

@[simp] theorem State.publishOut_frame (s : State) (g : GrantSet) (c : PwmCh) :
    (s.publishOut g c).ports = s.ports ∧ (s.publishOut g c).demands = s.demands ∧ (s.publishOut g c).age = s.age
    ∧ (s.publishOut g c).alloc = s.alloc ∧ (s.publishOut g c).valve = s.valve ∧ (s.publishOut g c).regime =
    s.regime ∧ (s.publishOut g c).temps = s.temps ∧ (s.publishOut g c).flows = s.flows ∧ (s.publishOut g
    c).delivered = s.delivered ∧ (s.publishOut g c).zones = s.zones ∧ (s.publishOut g c).shed = s.shed ∧
    (s.publishOut g c).params = s.params ∧ (s.publishOut g c).setup = s.setup ∧ (s.publishOut g c).ring = s.ring
    ∧ (s.publishOut g c).resetRecord = s.resetRecord ∧ (s.publishOut g c).hvReady = s.hvReady ∧ (s.publishOut g
    c).valveAt = s.valveAt ∧ (s.publishOut g c).pending = s.pending ∧ (s.publishOut g c).timeBase = s.timeBase := by
  unfold State.publishOut; simp

@[simp] theorem State.publishOutputs_frame (s : State) (g : GrantSet) :
    (s.publishOutputs g).ports = s.ports ∧ (s.publishOutputs g).demands = s.demands ∧ (s.publishOutputs g).age =
    s.age ∧ (s.publishOutputs g).alloc = s.alloc ∧ (s.publishOutputs g).valve = s.valve ∧ (s.publishOutputs
    g).regime = s.regime ∧ (s.publishOutputs g).temps = s.temps ∧ (s.publishOutputs g).flows = s.flows ∧
    (s.publishOutputs g).delivered = s.delivered ∧ (s.publishOutputs g).zones = s.zones ∧ (s.publishOutputs
    g).shed = s.shed ∧ (s.publishOutputs g).params = s.params ∧ (s.publishOutputs g).setup = s.setup ∧
    (s.publishOutputs g).ring = s.ring ∧ (s.publishOutputs g).resetRecord = s.resetRecord ∧ (s.publishOutputs
    g).hvReady = s.hvReady ∧ (s.publishOutputs g).valveAt = s.valveAt ∧ (s.publishOutputs g).pending = s.pending
    ∧ (s.publishOutputs g).timeBase = s.timeBase := by
  refine ⟨?_, ?_, ?_, ?_, ?_, ?_, ?_, ?_, ?_, ?_, ?_, ?_, ?_, ?_, ?_, ?_, ?_, ?_, ?_⟩ <;> exact foldl_keeps _ (fun t c => t.publishOut g c) (fun t c => by simp) allPwm s

@[simp] theorem State.clearForces_frame (s : State) :
    (s.clearForces).ports = s.ports ∧ (s.clearForces).demands = s.demands ∧ (s.clearForces).age = s.age ∧
    (s.clearForces).alloc = s.alloc ∧ (s.clearForces).valve = s.valve ∧ (s.clearForces).regime = s.regime ∧
    (s.clearForces).temps = s.temps ∧ (s.clearForces).flows = s.flows ∧ (s.clearForces).delivered = s.delivered
    ∧ (s.clearForces).zones = s.zones ∧ (s.clearForces).shed = s.shed ∧ (s.clearForces).params = s.params ∧
    (s.clearForces).setup = s.setup ∧ (s.clearForces).ring = s.ring ∧ (s.clearForces).resetRecord =
    s.resetRecord ∧ (s.clearForces).hvReady = s.hvReady ∧ (s.clearForces).valveAt = s.valveAt ∧
    (s.clearForces).pending = s.pending ∧ (s.clearForces).timeBase = s.timeBase := by
  unfold State.clearForces; simp

@[simp] theorem State.writeBackEntry_frame (s : State) (e : GrantEntry) :
    (s.writeBackEntry e).age = s.age ∧ (s.writeBackEntry e).alloc = s.alloc ∧ (s.writeBackEntry e).valve =
    s.valve ∧ (s.writeBackEntry e).regime = s.regime ∧ (s.writeBackEntry e).temps = s.temps ∧ (s.writeBackEntry
    e).flows = s.flows ∧ (s.writeBackEntry e).delivered = s.delivered ∧ (s.writeBackEntry e).zones = s.zones ∧
    (s.writeBackEntry e).shed = s.shed ∧ (s.writeBackEntry e).pwm = s.pwm ∧ (s.writeBackEntry e).params =
    s.params ∧ (s.writeBackEntry e).setup = s.setup ∧ (s.writeBackEntry e).ring = s.ring ∧ (s.writeBackEntry
    e).resetRecord = s.resetRecord ∧ (s.writeBackEntry e).hvReady = s.hvReady ∧ (s.writeBackEntry e).valveAt =
    s.valveAt ∧ (s.writeBackEntry e).pending = s.pending ∧ (s.writeBackEntry e).timeBase = s.timeBase := by
  unfold State.writeBackEntry; dsimp only; (repeat' split) <;> simp

@[simp] theorem State.writeBackAll_frame (s : State) (g : GrantSet) :
    (s.writeBackAll g).age = s.age ∧ (s.writeBackAll g).alloc = s.alloc ∧ (s.writeBackAll g).valve = s.valve ∧
    (s.writeBackAll g).regime = s.regime ∧ (s.writeBackAll g).temps = s.temps ∧ (s.writeBackAll g).flows =
    s.flows ∧ (s.writeBackAll g).delivered = s.delivered ∧ (s.writeBackAll g).zones = s.zones ∧ (s.writeBackAll
    g).shed = s.shed ∧ (s.writeBackAll g).pwm = s.pwm ∧ (s.writeBackAll g).params = s.params ∧ (s.writeBackAll
    g).setup = s.setup ∧ (s.writeBackAll g).ring = s.ring ∧ (s.writeBackAll g).resetRecord = s.resetRecord ∧
    (s.writeBackAll g).hvReady = s.hvReady ∧ (s.writeBackAll g).valveAt = s.valveAt ∧ (s.writeBackAll g).pending
    = s.pending ∧ (s.writeBackAll g).timeBase = s.timeBase := by
  refine ⟨?_, ?_, ?_, ?_, ?_, ?_, ?_, ?_, ?_, ?_, ?_, ?_, ?_, ?_, ?_, ?_, ?_, ?_⟩ <;> exact foldl_keeps _ State.writeBackEntry (fun t c => by simp) g.entries s

@[simp] theorem State.publish_frame (s : State) (g : GrantSet) :
    (s.publish g).ports = s.ports ∧ (s.publish g).demands = s.demands ∧ (s.publish g).age = s.age ∧ (s.publish
    g).valve = s.valve ∧ (s.publish g).regime = s.regime ∧ (s.publish g).temps = s.temps ∧ (s.publish g).flows =
    s.flows ∧ (s.publish g).delivered = s.delivered ∧ (s.publish g).zones = s.zones ∧ (s.publish g).shed =
    s.shed ∧ (s.publish g).pwm = s.pwm ∧ (s.publish g).params = s.params ∧ (s.publish g).setup = s.setup ∧
    (s.publish g).ring = s.ring ∧ (s.publish g).resetRecord = s.resetRecord ∧ (s.publish g).hvReady = s.hvReady
    ∧ (s.publish g).valveAt = s.valveAt ∧ (s.publish g).pending = s.pending ∧ (s.publish g).timeBase = s.timeBase := by
  unfold State.publish; simp

@[simp] theorem State.appendSnapshot_frame (s : State) (x : Snapshot) :
    (s.appendSnapshot x).demands = s.demands ∧ (s.appendSnapshot x).age = s.age ∧ (s.appendSnapshot x).alloc =
    s.alloc ∧ (s.appendSnapshot x).valve = s.valve ∧ (s.appendSnapshot x).regime = s.regime ∧ (s.appendSnapshot
    x).temps = s.temps ∧ (s.appendSnapshot x).flows = s.flows ∧ (s.appendSnapshot x).delivered = s.delivered ∧
    (s.appendSnapshot x).zones = s.zones ∧ (s.appendSnapshot x).shed = s.shed ∧ (s.appendSnapshot x).pwm = s.pwm
    ∧ (s.appendSnapshot x).params = s.params ∧ (s.appendSnapshot x).setup = s.setup ∧ (s.appendSnapshot
    x).resetRecord = s.resetRecord ∧ (s.appendSnapshot x).hvReady = s.hvReady ∧ (s.appendSnapshot x).valveAt =
    s.valveAt ∧ (s.appendSnapshot x).pending = s.pending ∧ (s.appendSnapshot x).timeBase = s.timeBase := by
  unfold State.appendSnapshot; (repeat' split) <;> simp

@[simp] theorem State.judgeLoop_frame (s : State) (l : Loop) (b : Bool) :
    (s.judgeLoop l b).alloc = s.alloc ∧ (s.judgeLoop l b).valve = s.valve ∧ (s.judgeLoop l b).temps = s.temps ∧
    (s.judgeLoop l b).flows = s.flows ∧ (s.judgeLoop l b).pwm = s.pwm ∧ (s.judgeLoop l b).params = s.params ∧
    (s.judgeLoop l b).setup = s.setup ∧ (s.judgeLoop l b).ring = s.ring ∧ (s.judgeLoop l b).resetRecord =
    s.resetRecord ∧ (s.judgeLoop l b).hvReady = s.hvReady ∧ (s.judgeLoop l b).valveAt = s.valveAt ∧ (s.judgeLoop
    l b).pending = s.pending ∧ (s.judgeLoop l b).timeBase = s.timeBase := by
  unfold State.judgeLoop; dsimp only; (repeat' split) <;> simp

@[simp] theorem State.onPublication_frame (s : State) (g : GrantSet) :
    (s.onPublication g).alloc = s.alloc ∧ (s.onPublication g).temps = s.temps ∧ (s.onPublication g).flows =
    s.flows ∧ (s.onPublication g).params = s.params ∧ (s.onPublication g).setup = s.setup ∧ (s.onPublication
    g).resetRecord = s.resetRecord ∧ (s.onPublication g).hvReady = s.hvReady ∧ (s.onPublication g).valveAt =
    s.valveAt ∧ (s.onPublication g).pending = s.pending ∧ (s.onPublication g).timeBase = s.timeBase := by
  unfold State.onPublication; simp

@[simp] theorem State.nextPeriod_frame (s : State) :
    (s.nextPeriod).ports = s.ports ∧ (s.nextPeriod).demands = s.demands ∧ (s.nextPeriod).age = s.age ∧
    (s.nextPeriod).valve = s.valve ∧ (s.nextPeriod).regime = s.regime ∧ (s.nextPeriod).temps = s.temps ∧
    (s.nextPeriod).flows = s.flows ∧ (s.nextPeriod).delivered = s.delivered ∧ (s.nextPeriod).zones = s.zones ∧
    (s.nextPeriod).shed = s.shed ∧ (s.nextPeriod).pwm = s.pwm ∧ (s.nextPeriod).params = s.params ∧
    (s.nextPeriod).setup = s.setup ∧ (s.nextPeriod).ring = s.ring ∧ (s.nextPeriod).resetRecord = s.resetRecord ∧
    (s.nextPeriod).hvReady = s.hvReady ∧ (s.nextPeriod).valveAt = s.valveAt ∧ (s.nextPeriod).pending = s.pending
    ∧ (s.nextPeriod).timeBase = s.timeBase := by
  unfold State.nextPeriod; simp

@[simp] theorem State.settleAllowance_frame (s : State) :
    (s.settleAllowance).ports = s.ports ∧ (s.settleAllowance).demands = s.demands ∧ (s.settleAllowance).age =
    s.age ∧ (s.settleAllowance).valve = s.valve ∧ (s.settleAllowance).regime = s.regime ∧
    (s.settleAllowance).temps = s.temps ∧ (s.settleAllowance).flows = s.flows ∧ (s.settleAllowance).delivered =
    s.delivered ∧ (s.settleAllowance).zones = s.zones ∧ (s.settleAllowance).shed = s.shed ∧
    (s.settleAllowance).pwm = s.pwm ∧ (s.settleAllowance).params = s.params ∧ (s.settleAllowance).setup =
    s.setup ∧ (s.settleAllowance).ring = s.ring ∧ (s.settleAllowance).resetRecord = s.resetRecord ∧
    (s.settleAllowance).hvReady = s.hvReady ∧ (s.settleAllowance).valveAt = s.valveAt ∧
    (s.settleAllowance).pending = s.pending ∧ (s.settleAllowance).timeBase = s.timeBase := by
  unfold State.settleAllowance; (repeat' split) <;> simp

@[simp] theorem State.runCycle_frame (s : State) :
    (s.runCycle).temps = s.temps ∧ (s.runCycle).flows = s.flows ∧ (s.runCycle).params = s.params ∧
    (s.runCycle).setup = s.setup ∧ (s.runCycle).resetRecord = s.resetRecord ∧ (s.runCycle).hvReady = s.hvReady ∧
    (s.runCycle).valveAt = s.valveAt ∧ (s.runCycle).pending = s.pending ∧ (s.runCycle).timeBase = s.timeBase := by
  unfold State.runCycle; simp

@[simp] theorem State.shiftOut_frame (s : State) (p : Port) (n : Nat) :
    (s.shiftOut p n).demands = s.demands ∧ (s.shiftOut p n).age = s.age ∧ (s.shiftOut p n).alloc = s.alloc ∧
    (s.shiftOut p n).valve = s.valve ∧ (s.shiftOut p n).regime = s.regime ∧ (s.shiftOut p n).temps = s.temps ∧
    (s.shiftOut p n).flows = s.flows ∧ (s.shiftOut p n).delivered = s.delivered ∧ (s.shiftOut p n).zones =
    s.zones ∧ (s.shiftOut p n).shed = s.shed ∧ (s.shiftOut p n).pwm = s.pwm ∧ (s.shiftOut p n).params = s.params
    ∧ (s.shiftOut p n).setup = s.setup ∧ (s.shiftOut p n).ring = s.ring ∧ (s.shiftOut p n).resetRecord =
    s.resetRecord ∧ (s.shiftOut p n).hvReady = s.hvReady ∧ (s.shiftOut p n).valveAt = s.valveAt ∧ (s.shiftOut p
    n).pending = s.pending ∧ (s.shiftOut p n).timeBase = s.timeBase := by
  unfold State.shiftOut; simp

@[simp] theorem State.stage_frame (s : State) (p : Port) (r : Reply) :
    (s.stage p r).demands = s.demands ∧ (s.stage p r).age = s.age ∧ (s.stage p r).alloc = s.alloc ∧ (s.stage p
    r).valve = s.valve ∧ (s.stage p r).regime = s.regime ∧ (s.stage p r).temps = s.temps ∧ (s.stage p r).flows =
    s.flows ∧ (s.stage p r).delivered = s.delivered ∧ (s.stage p r).zones = s.zones ∧ (s.stage p r).shed =
    s.shed ∧ (s.stage p r).pwm = s.pwm ∧ (s.stage p r).params = s.params ∧ (s.stage p r).setup = s.setup ∧
    (s.stage p r).ring = s.ring ∧ (s.stage p r).resetRecord = s.resetRecord ∧ (s.stage p r).hvReady = s.hvReady
    ∧ (s.stage p r).valveAt = s.valveAt ∧ (s.stage p r).pending = s.pending ∧ (s.stage p r).timeBase = s.timeBase := by
  unfold State.stage; simp

@[simp] theorem State.presenceChanged_frame (s : State) (p : Port) :
    (s.presenceChanged p).demands = s.demands ∧ (s.presenceChanged p).age = s.age ∧ (s.presenceChanged p).alloc
    = s.alloc ∧ (s.presenceChanged p).valve = s.valve ∧ (s.presenceChanged p).temps = s.temps ∧
    (s.presenceChanged p).flows = s.flows ∧ (s.presenceChanged p).delivered = s.delivered ∧ (s.presenceChanged
    p).zones = s.zones ∧ (s.presenceChanged p).shed = s.shed ∧ (s.presenceChanged p).pwm = s.pwm ∧
    (s.presenceChanged p).params = s.params ∧ (s.presenceChanged p).setup = s.setup ∧ (s.presenceChanged p).ring
    = s.ring ∧ (s.presenceChanged p).resetRecord = s.resetRecord ∧ (s.presenceChanged p).hvReady = s.hvReady ∧
    (s.presenceChanged p).valveAt = s.valveAt ∧ (s.presenceChanged p).pending = s.pending ∧ (s.presenceChanged
    p).timeBase = s.timeBase := by
  unfold State.presenceChanged; (repeat' split) <;> simp

@[simp] theorem State.restartLink_frame (s : State) (p : Port) :
    (s.restartLink p).demands = s.demands ∧ (s.restartLink p).age = s.age ∧ (s.restartLink p).alloc = s.alloc ∧
    (s.restartLink p).valve = s.valve ∧ (s.restartLink p).temps = s.temps ∧ (s.restartLink p).flows = s.flows ∧
    (s.restartLink p).delivered = s.delivered ∧ (s.restartLink p).zones = s.zones ∧ (s.restartLink p).shed =
    s.shed ∧ (s.restartLink p).pwm = s.pwm ∧ (s.restartLink p).params = s.params ∧ (s.restartLink p).setup =
    s.setup ∧ (s.restartLink p).ring = s.ring ∧ (s.restartLink p).resetRecord = s.resetRecord ∧ (s.restartLink
    p).hvReady = s.hvReady ∧ (s.restartLink p).valveAt = s.valveAt ∧ (s.restartLink p).pending = s.pending ∧
    (s.restartLink p).timeBase = s.timeBase := by
  unfold State.restartLink; (repeat' split) <;> simp

@[simp] theorem State.frameArrives_frame (s : State) (p : Port) (n : Nat) :
    (s.frameArrives p n).demands = s.demands ∧ (s.frameArrives p n).age = s.age ∧ (s.frameArrives p n).alloc =
    s.alloc ∧ (s.frameArrives p n).valve = s.valve ∧ (s.frameArrives p n).temps = s.temps ∧ (s.frameArrives p
    n).flows = s.flows ∧ (s.frameArrives p n).delivered = s.delivered ∧ (s.frameArrives p n).zones = s.zones ∧
    (s.frameArrives p n).shed = s.shed ∧ (s.frameArrives p n).pwm = s.pwm ∧ (s.frameArrives p n).params =
    s.params ∧ (s.frameArrives p n).setup = s.setup ∧ (s.frameArrives p n).ring = s.ring ∧ (s.frameArrives p
    n).resetRecord = s.resetRecord ∧ (s.frameArrives p n).hvReady = s.hvReady ∧ (s.frameArrives p n).valveAt =
    s.valveAt ∧ (s.frameArrives p n).pending = s.pending ∧ (s.frameArrives p n).timeBase = s.timeBase := by
  unfold State.frameArrives; simp

@[simp] theorem State.storeParam_frame (s : State) (p : Port) (q : Param) (v w : Int) :
    (s.storeParam p q v w).ports = s.ports ∧ (s.storeParam p q v w).demands = s.demands ∧ (s.storeParam p q v
    w).age = s.age ∧ (s.storeParam p q v w).alloc = s.alloc ∧ (s.storeParam p q v w).valve = s.valve ∧
    (s.storeParam p q v w).regime = s.regime ∧ (s.storeParam p q v w).temps = s.temps ∧ (s.storeParam p q v
    w).flows = s.flows ∧ (s.storeParam p q v w).delivered = s.delivered ∧ (s.storeParam p q v w).zones = s.zones
    ∧ (s.storeParam p q v w).shed = s.shed ∧ (s.storeParam p q v w).pwm = s.pwm ∧ (s.storeParam p q v w).setup =
    s.setup ∧ (s.storeParam p q v w).ring = s.ring ∧ (s.storeParam p q v w).resetRecord = s.resetRecord ∧
    (s.storeParam p q v w).hvReady = s.hvReady ∧ (s.storeParam p q v w).valveAt = s.valveAt ∧ (s.storeParam p q
    v w).pending = s.pending ∧ (s.storeParam p q v w).timeBase = s.timeBase := by
  unfold State.storeParam; simp

@[simp] theorem State.lowerCompMin_frame (s : State) (p : Port) (q : Param) :
    (s.lowerCompMin p q).ports = s.ports ∧ (s.lowerCompMin p q).demands = s.demands ∧ (s.lowerCompMin p q).age =
    s.age ∧ (s.lowerCompMin p q).alloc = s.alloc ∧ (s.lowerCompMin p q).valve = s.valve ∧ (s.lowerCompMin p
    q).regime = s.regime ∧ (s.lowerCompMin p q).temps = s.temps ∧ (s.lowerCompMin p q).flows = s.flows ∧
    (s.lowerCompMin p q).delivered = s.delivered ∧ (s.lowerCompMin p q).zones = s.zones ∧ (s.lowerCompMin p
    q).shed = s.shed ∧ (s.lowerCompMin p q).pwm = s.pwm ∧ (s.lowerCompMin p q).setup = s.setup ∧ (s.lowerCompMin
    p q).ring = s.ring ∧ (s.lowerCompMin p q).resetRecord = s.resetRecord ∧ (s.lowerCompMin p q).hvReady =
    s.hvReady ∧ (s.lowerCompMin p q).valveAt = s.valveAt ∧ (s.lowerCompMin p q).pending = s.pending ∧
    (s.lowerCompMin p q).timeBase = s.timeBase := by
  unfold State.lowerCompMin; (repeat' split) <;> simp

@[simp] theorem State.clearVotes_frame (s : State) :
    (s.clearVotes).demands = s.demands ∧ (s.clearVotes).age = s.age ∧ (s.clearVotes).alloc = s.alloc ∧
    (s.clearVotes).valve = s.valve ∧ (s.clearVotes).regime = s.regime ∧ (s.clearVotes).temps = s.temps ∧
    (s.clearVotes).flows = s.flows ∧ (s.clearVotes).delivered = s.delivered ∧ (s.clearVotes).zones = s.zones ∧
    (s.clearVotes).shed = s.shed ∧ (s.clearVotes).pwm = s.pwm ∧ (s.clearVotes).params = s.params ∧
    (s.clearVotes).ring = s.ring ∧ (s.clearVotes).resetRecord = s.resetRecord ∧ (s.clearVotes).hvReady =
    s.hvReady ∧ (s.clearVotes).valveAt = s.valveAt ∧ (s.clearVotes).pending = s.pending ∧ (s.clearVotes).timeBase
    = s.timeBase := by
  unfold State.clearVotes; (repeat' split) <;> simp

@[simp] theorem State.writeInSetup_frame (s : State) (q : Param) :
    (s.writeInSetup q).alloc = s.alloc ∧ (s.writeInSetup q).valve = s.valve ∧ (s.writeInSetup q).delivered =
    s.delivered ∧ (s.writeInSetup q).pwm = s.pwm ∧ (s.writeInSetup q).params = s.params ∧ (s.writeInSetup
    q).ring = s.ring ∧ (s.writeInSetup q).resetRecord = s.resetRecord ∧ (s.writeInSetup q).hvReady = s.hvReady ∧
    (s.writeInSetup q).valveAt = s.valveAt ∧ (s.writeInSetup q).pending = s.pending ∧ (s.writeInSetup q).timeBase
    = s.timeBase := by
  unfold State.writeInSetup; (repeat' split) <;> simp

@[simp] theorem State.writeInRun_frame (s : State) (q : Param) (o : Zone → GuardAction) :
    (s.writeInRun q o).alloc = s.alloc ∧ (s.writeInRun q o).valve = s.valve ∧ (s.writeInRun q o).temps = s.temps
    ∧ (s.writeInRun q o).flows = s.flows ∧ (s.writeInRun q o).delivered = s.delivered ∧ (s.writeInRun q o).pwm =
    s.pwm ∧ (s.writeInRun q o).params = s.params ∧ (s.writeInRun q o).setup = s.setup ∧ (s.writeInRun q o).ring
    = s.ring ∧ (s.writeInRun q o).resetRecord = s.resetRecord ∧ (s.writeInRun q o).hvReady = s.hvReady ∧
    (s.writeInRun q o).valveAt = s.valveAt ∧ (s.writeInRun q o).pending = s.pending ∧ (s.writeInRun q o).timeBase
    = s.timeBase := by
  unfold State.writeInRun; (repeat' split) <;> simp

@[simp] theorem State.takeWrite_frame (s : State) (p : Port) (q : Param) (j : Judged) :
    (s.takeWrite p q j).alloc = s.alloc ∧ (s.takeWrite p q j).valve = s.valve ∧ (s.takeWrite p q j).delivered =
    s.delivered ∧ (s.takeWrite p q j).pwm = s.pwm ∧ (s.takeWrite p q j).ring = s.ring ∧ (s.takeWrite p q
    j).resetRecord = s.resetRecord ∧ (s.takeWrite p q j).hvReady = s.hvReady ∧ (s.takeWrite p q j).valveAt =
    s.valveAt ∧ (s.takeWrite p q j).pending = s.pending ∧ (s.takeWrite p q j).timeBase = s.timeBase := by
  unfold State.takeWrite; (repeat' split) <;> simp

@[simp] theorem State.regimeRunEntry_frame (s : State) :
    (s.regimeRunEntry).demands = s.demands ∧ (s.regimeRunEntry).age = s.age ∧ (s.regimeRunEntry).alloc = s.alloc
    ∧ (s.regimeRunEntry).valve = s.valve ∧ (s.regimeRunEntry).temps = s.temps ∧ (s.regimeRunEntry).flows =
    s.flows ∧ (s.regimeRunEntry).delivered = s.delivered ∧ (s.regimeRunEntry).zones = s.zones ∧
    (s.regimeRunEntry).shed = s.shed ∧ (s.regimeRunEntry).pwm = s.pwm ∧ (s.regimeRunEntry).params = s.params ∧
    (s.regimeRunEntry).setup = s.setup ∧ (s.regimeRunEntry).ring = s.ring ∧ (s.regimeRunEntry).resetRecord =
    s.resetRecord ∧ (s.regimeRunEntry).hvReady = s.hvReady ∧ (s.regimeRunEntry).valveAt = s.valveAt ∧
    (s.regimeRunEntry).pending = s.pending ∧ (s.regimeRunEntry).timeBase = s.timeBase := by
  unfold State.regimeRunEntry; simp

@[simp] theorem State.allocatorRunEntry_frame (s : State) :
    (s.allocatorRunEntry).ports = s.ports ∧ (s.allocatorRunEntry).demands = s.demands ∧
    (s.allocatorRunEntry).age = s.age ∧ (s.allocatorRunEntry).valve = s.valve ∧ (s.allocatorRunEntry).regime =
    s.regime ∧ (s.allocatorRunEntry).temps = s.temps ∧ (s.allocatorRunEntry).flows = s.flows ∧
    (s.allocatorRunEntry).delivered = s.delivered ∧ (s.allocatorRunEntry).zones = s.zones ∧
    (s.allocatorRunEntry).shed = s.shed ∧ (s.allocatorRunEntry).pwm = s.pwm ∧ (s.allocatorRunEntry).params =
    s.params ∧ (s.allocatorRunEntry).setup = s.setup ∧ (s.allocatorRunEntry).ring = s.ring ∧
    (s.allocatorRunEntry).resetRecord = s.resetRecord ∧ (s.allocatorRunEntry).hvReady = s.hvReady ∧
    (s.allocatorRunEntry).valveAt = s.valveAt ∧ (s.allocatorRunEntry).pending = s.pending ∧
    (s.allocatorRunEntry).timeBase = s.timeBase := by
  unfold State.allocatorRunEntry; simp

@[simp] theorem State.enterRun_frame (s : State) :
    (s.enterRun).valve = s.valve ∧ (s.enterRun).temps = s.temps ∧ (s.enterRun).flows = s.flows ∧
    (s.enterRun).delivered = s.delivered ∧ (s.enterRun).params = s.params ∧ (s.enterRun).ring = s.ring ∧
    (s.enterRun).resetRecord = s.resetRecord ∧ (s.enterRun).hvReady = s.hvReady ∧ (s.enterRun).valveAt =
    s.valveAt ∧ (s.enterRun).pending = s.pending ∧ (s.enterRun).timeBase = s.timeBase := by
  unfold State.enterRun; simp

@[simp] theorem State.failValidation_frame (s : State) (n : Nat) (r : FaultReason) :
    (s.failValidation n r).demands = s.demands ∧ (s.failValidation n r).age = s.age ∧ (s.failValidation n
    r).alloc = s.alloc ∧ (s.failValidation n r).valve = s.valve ∧ (s.failValidation n r).regime = s.regime ∧
    (s.failValidation n r).temps = s.temps ∧ (s.failValidation n r).flows = s.flows ∧ (s.failValidation n
    r).delivered = s.delivered ∧ (s.failValidation n r).zones = s.zones ∧ (s.failValidation n r).shed = s.shed ∧
    (s.failValidation n r).pwm = s.pwm ∧ (s.failValidation n r).params = s.params ∧ (s.failValidation n r).ring
    = s.ring ∧ (s.failValidation n r).resetRecord = s.resetRecord ∧ (s.failValidation n r).hvReady = s.hvReady ∧
    (s.failValidation n r).valveAt = s.valveAt ∧ (s.failValidation n r).pending = s.pending ∧ (s.failValidation
    n r).timeBase = s.timeBase := by
  unfold State.failValidation; simp

@[simp] theorem State.validate_frame (s : State) :
    (s.validate).valve = s.valve ∧ (s.validate).temps = s.temps ∧ (s.validate).flows = s.flows ∧
    (s.validate).delivered = s.delivered ∧ (s.validate).params = s.params ∧ (s.validate).ring = s.ring ∧
    (s.validate).resetRecord = s.resetRecord ∧ (s.validate).hvReady = s.hvReady ∧ (s.validate).valveAt =
    s.valveAt ∧ (s.validate).pending = s.pending ∧ (s.validate).timeBase = s.timeBase := by
  unfold State.validate; (repeat' split) <;> simp

@[simp] theorem State.setVote_frame (s : State) (p : Port) (v : Bool) :
    (s.setVote p v).ports = s.ports ∧ (s.setVote p v).demands = s.demands ∧ (s.setVote p v).age = s.age ∧
    (s.setVote p v).alloc = s.alloc ∧ (s.setVote p v).valve = s.valve ∧ (s.setVote p v).regime = s.regime ∧
    (s.setVote p v).temps = s.temps ∧ (s.setVote p v).flows = s.flows ∧ (s.setVote p v).delivered = s.delivered
    ∧ (s.setVote p v).zones = s.zones ∧ (s.setVote p v).shed = s.shed ∧ (s.setVote p v).pwm = s.pwm ∧ (s.setVote
    p v).params = s.params ∧ (s.setVote p v).ring = s.ring ∧ (s.setVote p v).resetRecord = s.resetRecord ∧
    (s.setVote p v).hvReady = s.hvReady ∧ (s.setVote p v).valveAt = s.valveAt ∧ (s.setVote p v).pending =
    s.pending ∧ (s.setVote p v).timeBase = s.timeBase := by
  unfold State.setVote; simp

@[simp] theorem State.addVote_frame (s : State) (p : Port) :
    (s.addVote p).valve = s.valve ∧ (s.addVote p).temps = s.temps ∧ (s.addVote p).flows = s.flows ∧ (s.addVote
    p).delivered = s.delivered ∧ (s.addVote p).params = s.params ∧ (s.addVote p).ring = s.ring ∧ (s.addVote
    p).resetRecord = s.resetRecord ∧ (s.addVote p).hvReady = s.hvReady ∧ (s.addVote p).valveAt = s.valveAt ∧
    (s.addVote p).pending = s.pending ∧ (s.addVote p).timeBase = s.timeBase := by
  unfold State.addVote; dsimp only; (repeat' split) <;> simp

end Sys2Proof.Machine
end

