-- ==== Sys2Proof/Laws/Link.lean ====
section
/-!
SUPPORT. What setting a notice, changing the regime, resolving it, and the arrival of a good frame can do to a port and to the
Regime Controller.
-/

namespace Sys2Proof.Machine

/-! ## Notices -/

/-- A notice on one port: its flag and its line, and no other port. -/
theorem State.notify_port (s : State) (n : Notice) (p q : Port) :
    (s.notify n p).port q = if q = p then (s.port q).withFlags ((s.port q).flags ||| n.mask) else s.port q := by
  simp only [State.notify, State.port_setPort]
  split <;> simp_all

/-- A notice on all ports: every port's flag and line. -/
theorem State.notifyAll_port (s : State) (n : Notice) (q : Port) :
    (s.notifyAll n).port q = (s.port q).withFlags ((s.port q).flags ||| n.mask) := by
  simp only [State.notifyAll, State.notify_port]
  cases q <;> simp

@[simp] theorem LinkPort.withFlags_flags (l : LinkPort) (f : NoticeSet) : (l.withFlags f).flags = f := rfl
@[simp] theorem LinkPort.withFlags_staged (l : LinkPort) (f : NoticeSet) : (l.withFlags f).staged = l.staged := rfl
@[simp] theorem LinkPort.withFlags_sent (l : LinkPort) (f : NoticeSet) : (l.withFlags f).sent = l.sent := rfl
@[simp] theorem LinkPort.withFlags_selected (l : LinkPort) (f : NoticeSet) : (l.withFlags f).selected = l.selected := rfl
@[simp] theorem LinkPort.withFlags_ignored (l : LinkPort) (f : NoticeSet) : (l.withFlags f).ignored = l.ignored := rfl
@[simp] theorem LinkPort.withFlags_byteCount (l : LinkPort) (f : NoticeSet) : (l.withFlags f).byteCount = l.byteCount := rfl
@[simp] theorem LinkPort.withFlags_partialBits (l : LinkPort) (f : NoticeSet) :
    (l.withFlags f).partialBits = l.partialBits := rfl
@[simp] theorem LinkPort.withFlags_lastBytes (l : LinkPort) (f : NoticeSet) : (l.withFlags f).lastBytes = l.lastBytes := rfl
@[simp] theorem LinkPort.withFlags_enables (l : LinkPort) (f : NoticeSet) : (l.withFlags f).enables = l.enables := rfl
@[simp] theorem LinkPort.withFlags_linkTimer (l : LinkPort) (f : NoticeSet) : (l.withFlags f).linkTimer = l.linkTimer := rfl
@[simp] theorem LinkPort.withFlags_presence (l : LinkPort) (f : NoticeSet) : (l.withFlags f).presence = l.presence := rfl
@[simp] theorem LinkPort.withFlags_cursor (l : LinkPort) (f : NoticeSet) : (l.withFlags f).cursor = l.cursor := rfl
@[simp] theorem LinkPort.withFlags_overrun (l : LinkPort) (f : NoticeSet) : (l.withFlags f).overrun = l.overrun := rfl
@[simp] theorem LinkPort.withFlags_attention (l : LinkPort) (f : NoticeSet) :
    (l.withFlags f).attention = lineFor f l.enables := rfl

/-! ## A change of regime and a resolution -/

/-- What a change of regime leaves in the Regime Controller. -/
theorem State.changeRegime_regime (s : State) (r : Regime) :
    (s.changeRegime r).regime =
      if s.regime.regime = r then s.regime
      else
        { s.regime with
          regime := r
          prime := if r = .priming then some (seconds (s.num .primeTime)) else none
          dormant := if r = .park ∧ s.tableEmpty = true then some (seconds (s.num .dormantDelay)) else none } := by
  unfold State.changeRegime
  split
  · rfl
  · simp [State.notifyAll, State.notify]

/-- A change of regime sets REGIME on every port. -/
theorem State.changeRegime_port (s : State) (r : Regime) (q : Port) :
    (s.changeRegime r).port q =
      if s.regime.regime = r then s.port q else (s.port q).withFlags ((s.port q).flags ||| Notice.regime.mask) := by
  unfold State.changeRegime
  split
  · rfl
  · rw [State.notifyAll_port]; rfl

@[simp] theorem State.settleChargePending_port (s : State) (q : Port) : s.settleChargePending.port q = s.port q := rfl
@[simp] theorem State.settleChargePending_regime (s : State) :
    s.settleChargePending.regime = { s.regime with chargePending := s.chargeVote && !s.hvReady } := rfl

/-- What a resolution reads does not include charge-pending. -/
theorem State.resolvedRegime_settle (s : State) : s.settleChargePending.resolvedRegime = s.resolvedRegime := rfl

theorem State.tableEmpty_congr {s t : State} (h : t.demands = s.demands) : t.tableEmpty = s.tableEmpty := by
  simp only [State.tableEmpty, State.demand_congr h]

/-- What a resolution leaves in the Regime Controller. -/
theorem State.resolve_regime (s : State) :
    s.resolve.regime =
      if s.regime.regime = s.resolvedRegime then { s.regime with chargePending := s.chargeVote && !s.hvReady }
      else
        { regime := s.resolvedRegime, voteM := s.regime.voteM, voteB := s.regime.voteB
          chargePending := s.chargeVote && !s.hvReady
          prime := if s.resolvedRegime = .priming then some (seconds (s.num .primeTime)) else none
          dormant :=
            if s.resolvedRegime = .park ∧ s.tableEmpty = true then some (seconds (s.num .dormantDelay)) else none } := by
  have e : s.resolve = s.settleChargePending.changeRegime s.resolvedRegime := rfl
  rw [e, State.changeRegime_regime]
  rfl

/-- A resolution sets REGIME on every port if it changes the regime. -/
theorem State.resolve_port (s : State) (q : Port) :
    s.resolve.port q =
      if s.regime.regime = s.resolvedRegime then s.port q
      else (s.port q).withFlags ((s.port q).flags ||| Notice.regime.mask) := by
  have e : s.resolve = s.settleChargePending.changeRegime s.resolvedRegime := rfl
  rw [e, State.changeRegime_port]
  rfl

/-- The wake from DORMANT. -/
theorem State.wake_of_awake {s : State} (h : s.regime.regime ≠ .dormant) : s.wake = s := by
  simp [State.wake, h]

/-! ## A good frame's arrival -/

/-- Outside DORMANT a good frame on a PRESENT port sends out the staged reply and restarts the link timer. -/
theorem State.frameArrives_awake {s : State} {p : Port} (extra : Nat) (h : s.regime.regime ≠ .dormant)
    (hp : (s.port p).presence = .present) :
    s.frameArrives p extra =
      s.setPort p
        { s.port p with
          sent := (s.port p).staged.shifted (96 + extra)
          linkTimer := some (seconds (s.num .linkTimeout)) } := by
  have hw : (s.shiftOut p (96 + extra)).wake = s.shiftOut p (96 + extra) := by
    apply State.wake_of_awake; simpa using h
  simp only [State.frameArrives, hw, State.restartLink]
  have hpres : ((s.shiftOut p (96 + extra)).port p) =
      { s.port p with sent := (s.port p).staged.shifted (96 + extra) } := by
    simp [State.shiftOut, State.port_setPort]
  simp only [hpres, hp, reduceCtorEq, if_false]
  simp only [State.shiftOut, State.setPort, put_put, State.num, State.param]

/-- A resolution changes of a port at most its REGIME flag and its line. -/
theorem State.resolve_port_cases (s : State) (q : Port) :
    s.resolve.port q = s.port q ∨ s.resolve.port q = (s.port q).withFlags ((s.port q).flags ||| Notice.regime.mask) := by
  rw [State.resolve_port]
  split
  · exact .inl rfl
  · exact .inr rfl

end Sys2Proof.Machine
end

