-- ==== Sys2Proof/Laws/Effects.lean ====
section
/-!
SUPPORT. What each shared operation does: one lemma for each field that it writes, to be cited in place of its definition.
-/

namespace Sys2Proof.Machine

/-! ## The Demand Table -/

theorem State.tableEmpty_iff (s : State) : s.tableEmpty = true ↔ ∀ i, (s.demand i).stands = false := by
  simp [State.tableEmpty, allSlots, Fin.forall_fin_succ]

theorem State.dormantUpkeep_regime (s : State) :
    s.dormantUpkeep.regime =
      { s.regime with
        dormant :=
          if s.regime.regime = .park ∧ s.tableEmpty = true then
            some (s.regime.dormant.getD (seconds (s.num .dormantDelay)))
          else none } := by
  unfold State.dormantUpkeep
  split
  · split
    · next us e => simp only [e, Option.getD_some]; rw [← e]
    · next e => simp only [e, Option.getD_none]
  · rfl

@[simp] theorem State.dormantUpkeep_demand (s : State) (i : Fin 15) : s.dormantUpkeep.demand i = s.demand i :=
  State.demand_congr (by simp) i

theorem State.freeSlot_demand (s : State) (i j : Fin 15) :
    (s.freeSlot i).demand j = if j = i then Demand.freeSlot else s.demand j := by
  simp only [State.freeSlot, State.dormantUpkeep_demand]
  exact State.demand_setDemand s i j Demand.freeSlot

@[simp] theorem State.freeSlot_age (s : State) (i : Fin 15) : (s.freeSlot i).age = s.age.erase i := by
  simp [State.freeSlot]

theorem State.writeDemand_demand (s : State) (i j : Fin 15) (d : Demand) (keep : Bool) :
    (s.writeDemand i d keep).demand j = if j = i then d else s.demand j := by
  simp only [State.writeDemand, State.dormantUpkeep_demand]
  exact State.demand_setDemand s i j d

theorem State.writeDemand_age (s : State) (i : Fin 15) (d : Demand) (keep : Bool) :
    (s.writeDemand i d keep).age =
      if (s.demand i).stands = true ∧ keep = true then s.age else s.age.erase i ++ [i] := by
  simp [State.writeDemand]

theorem State.createSynthetic_demand (s : State) (z : Zone) (j : Fin 15) :
    (s.createSynthetic z).demand j = if j = gIx z then s.syntheticDemand z else s.demand j :=
  State.writeDemand_demand s (gIx z) j (s.syntheticDemand z) true

theorem State.withdrawSynthetic_demand (s : State) (z : Zone) (j : Fin 15) :
    (s.withdrawSynthetic z).demand j =
      if j = gIx z ∧ (s.demand (gIx z)).stands = true then Demand.freeSlot else s.demand j := by
  unfold State.withdrawSynthetic
  split
  · rw [State.freeSlot_demand]; simp_all
  · simp_all

/-! ## The mode valve -/

@[simp] theorem State.beginTravel_valve (s : State) (m n : Mode) (k : Nat) :
    (s.beginTravel m n k).valve =
      { s.valve with
        state := .travel, fromMode := m, toMode := n, attempt := k, dwell := none
        travel := some (seconds (s.num .travelMax)), release := if m = n then true else !s.valveAt
        driveCode := modeCode n } := rfl

theorem State.arrive_valve (s : State) :
    s.arrive.valve =
      { s.valve with
        state := .settled, fromMode := s.valve.toMode, attempt := 0, travel := none
        dwell := some (seconds (s.num .dwell)), driveCode := modeCode s.valve.toMode } := by
  simp [State.arrive]

/-! ## Guards -/

theorem State.shedUpkeep_shed (s : State) : s.shedUpkeep.shed = s.shedWanted := rfl

theorem State.withConditions_same (s : State) (z : Zone) : s.withConditions z (s.zone z).cond = s := by
  simp [State.withConditions]

theorem State.evaluate_unarmed {s : State} {z : Zone} (h : (s.zone z).guard = .unarmed) : s.evaluate z = s := by
  simp [State.evaluate, h]

theorem State.evaluate_armed_match {s : State} {z : Zone} (h : (s.zone z).guard = .armed) (m : s.guardMatches z = true) :
    s.evaluate z = s := by
  simp [State.evaluate, h, m]

theorem State.trip_of_awake {s : State} (z : Zone) (h : s.regime.regime ≠ .dormant) : s.trip z = s.tripAwake z := by
  simp [State.trip, h]

/-! ## Parameters -/

theorem State.storeParam_param (s : State) (p : Port) (q r : Param) (v w : Int) :
    (s.storeParam p q v w).param r =
      if r = q then { value := v, second := w, written := true, writer := some p } else s.param r :=
  State.param_setParam s q r _

theorem State.lowerCompMin_param (s : State) (p : Port) (q r : Param) :
    (s.lowerCompMin p q).param r =
      if q = .compMax ∧ s.int .compMax < s.int .compMin ∧ r = .compMin then
        { value := s.int .compMax, second := 0, written := true, writer := some p }
      else s.param r := by
  unfold State.lowerCompMin
  split
  · rw [State.storeParam_param]; simp_all
  · simp_all

/-! ## Sensing and outputs -/

theorem TempChannel.restart_usable (c : TempChannel) (r : Int) (t : TempTag) : (c.restart r t).tag = t := rfl

theorem State.publishOut_out (s : State) (g : GrantSet) (c d : PwmCh) :
    (s.publishOut g c).out d =
      if d = c then (s.out c).publish (s.targetOf g c) (s.num (slewParam c)) g.regime else s.out d :=
  State.out_setOut s c d _

/-! ## A cycle -/

theorem State.publish_alloc (s : State) (g : GrantSet) :
    (s.publish g).alloc = { s.alloc with seq := g.seq, published := some g, previous := s.alloc.published } := rfl

theorem State.nextPeriod_alloc (s : State) :
    s.nextPeriod.alloc = { s.alloc with cycleLength := s.cyclePeriod, cycleLeft := some s.cyclePeriod } := rfl

end Sys2Proof.Machine
end

