-- ==== Sys2Proof/Laws/Safety.lean ====
section
/-!
SUPPORT. Which fields each block's soundness reads: a change of any other field keeps it.
-/

namespace Sys2Proof.Machine

variable {s t : State}

theorem State.PortsOk.congr (h : s.PortsOk) (ports : t.ports = s.ports) (ring : t.ring = s.ring) : t.PortsOk := by
  have e (p : Port) : t.port p = s.port p := by simp [State.port, ports]
  constructor <;> simp only [e, ring, Ring.oldest]
  exacts [h.line, h.lostEnabled, h.allowanceOnB, h.timedPresent, h.receiving, h.idle, h.ignoring, h.ringLength, h.cursors]

theorem State.ParamsOk.congr (h : s.ParamsOk) (params : t.params = s.params) : t.ParamsOk := by
  have e (q : Param) : t.param q = s.param q := by simp [State.param, params]
  constructor <;> simp only [e, State.int]
  exacts [h.written, h.writer, h.unwritten, h.compOrder]

theorem State.DemandsOk.congr (h : s.DemandsOk) (demands : t.demands = s.demands) (age : t.age = s.age) : t.DemandsOk := by
  have e (i : Fin 15) : t.demand i = s.demand i := by simp [State.demand, demands]
  constructor <;> simp only [e, age]
  exacts [h.ageNodup, h.ageExact, h.freeClear, h.ranges, h.granted, h.episode, h.leased, h.synthetic, h.motorCools,
    h.chargeOnBattery, h.oneSense]

theorem State.AllocOk.congr (h : s.AllocOk) (alloc : t.alloc = s.alloc) (setup : t.setup = s.setup) : t.AllocOk := by
  have e : t.running = s.running := by simp [State.running, setup]
  constructor <;> simp only [alloc, e]
  exacts [h.cycling, h.inForce, h.leased, h.granted, h.waiting, h.published, h.previous, h.setupHasNone]

theorem State.ValveOk.congr (h : s.ValveOk) (valve : t.valve = s.valve) : t.ValveOk := by
  constructor <;> simp only [valve]
  exacts [h.settled, h.moving, h.waiting, h.locked, h.timed, h.lines]

theorem State.RegimeOk.congr (h : s.RegimeOk) (regime : t.regime = s.regime) (setup : t.setup = s.setup)
    (ports : t.ports = s.ports) (demands : t.demands = s.demands) (hvReady : t.hvReady = s.hvReady) : t.RegimeOk := by
  have r : t.running = s.running := by simp [State.running, setup]
  have e : t.tableEmpty = s.tableEmpty := State.tableEmpty_congr demands
  have c : t.chargeVote = s.chargeVote := by simp [State.chargeVote, State.port, regime, ports]
  have d : t.driveVote = s.driveVote := by simp [State.driveVote, State.port, regime, ports]
  constructor <;> simp only [State.chargeCondition, regime, r, e, c, d, hvReady]
  exacts [h.setupHasNone, h.charging, h.driving, h.pending, h.prime, h.dormantTimer, h.dormantEmpty]

theorem State.SensingOk.congr (h : s.SensingOk) (temps : t.temps = s.temps) (flows : t.flows = s.flows)
    (params : t.params = s.params) (timeBase : t.timeBase = s.timeBase) : t.SensingOk := by
  have e (c : TempCh) : t.temp c = s.temp c := by simp [State.temp, temps]
  have f (l : Loop) : t.flow l = s.flow l := by simp [State.flow, flows]
  have q (q : Param) : t.num q = s.num q := by simp [State.num, State.param, params]
  constructor <;> simp only [e, f, q, timeBase]
  exacts [h.filtered, h.reading, h.hold, h.recover, h.started, h.stalled, h.flowRange, h.referenced, h.referencePast,
    h.stallWithin, h.periods]

theorem State.ZonesOk.congr (h : s.ZonesOk) (zones : t.zones = s.zones) (temps : t.temps = s.temps)
    (flows : t.flows = s.flows) (delivered : t.delivered = s.delivered) (params : t.params = s.params)
    (setup : t.setup = s.setup) (demands : t.demands = s.demands) (shed : t.shed = s.shed) : t.ZonesOk := by
  have z (z : Zone) : t.zone z = s.zone z := by simp [State.zone, zones]
  have u (c : TempCh) : t.usable c = s.usable c := by simp [State.usable, State.temp, temps]
  have f (l : Loop) : t.flow l = s.flow l := by simp [State.flow, flows]
  have r (l : Loop) : t.record l = s.record l := by simp [State.record, delivered]
  have q (q : Param) : t.param q = s.param q := by simp [State.param, params]
  have i (i : Fin 15) : t.demand i = s.demand i := by simp [State.demand, demands]
  have g : t.running = s.running := by simp [State.running, setup]
  have m (z : Zone) : t.guardMatches z = s.guardMatches z := by
    simp [State.guardMatches, State.zone, State.num, State.param, zones, params]
  have a (z : Zone) : t.guardAction z = s.guardAction z := by simp [State.guardAction, State.num, State.param, params]
  constructor <;> simp only [z, u, f, r, q, i, g, m, a, shed]
  exacts [h.blind, h.stall, h.cabin, h.highJudged, h.lowJudged, h.short, h.counters, h.unmeasured, h.trips, h.unarmed,
    h.armed, h.tripped, h.synthetic, h.shed]

theorem State.OutputsOk.congr (h : s.OutputsOk) (pwm : t.pwm = s.pwm) (setup : t.setup = s.setup)
    (regime : t.regime = s.regime) : t.OutputsOk := by
  have e (c : PwmCh) : t.out c = s.out c := by simp [State.out, pwm]
  have g : t.running = s.running := by simp [State.running, setup]
  constructor <;> simp only [e, g, regime]
  exacts [h.range, h.noForceInRun, h.dormant, h.limp]

end Sys2Proof.Machine
end

