-- ==== Sys2Proof/Laws/Time.lean ====
section
/-!
SUPPORT. What a tick brings to the queue, whatever order the free value gives, and what the receiver of a port makes of the bits of
a byte.
-/

namespace Sys2Proof.Machine

/-! ## Expiries that fall due -/

theorem insertBy_perm (before : Instr → Instr → Bool) (c : Instr) (l : List Instr) : (insertBy before c l).Perm (c :: l) := by
  induction l with
  | nil => exact .refl _
  | cons d rest ih =>
    unfold insertBy
    split
    · exact .refl _
    · exact (ih.cons d).trans (.swap c d rest)

/-- An order loses and makes no command. -/
theorem orderBy_perm (before : Instr → Instr → Bool) (l : List Instr) : (orderBy before l).Perm l := by
  induction l with
  | nil => exact .refl _
  | cons c rest ih => exact (insertBy_perm before c _).trans (ih.cons c)

theorem mem_allExpiries {s : State} {c : Instr} (h : s.isDue c = true) : c ∈ allExpiries := by
  cases c <;> simp only [State.isDue, Bool.false_eq_true] at h
  case leaseExpiry z k => clear h; cases z <;> revert k <;> decide
  case linkTimerExpiry p => cases p <;> decide
  case holdExpiry c => cases c <;> decide
  case stallExpiry l => cases l <;> decide
  case periodBoundary c => cases c <;> decide
  all_goals decide

theorem allExpiries_nodup : allExpiries.Nodup := by decide

/-- The expiries due are exactly those whose timer has run out, in whatever order. -/
theorem State.mem_dueExpiries (s : State) (c : Instr) : c ∈ s.dueExpiries ↔ s.isDue c = true := by
  rw [State.dueExpiries, (orderBy_perm _ _).mem_iff, List.mem_filter]
  exact ⟨And.right, fun h => ⟨mem_allExpiries h, h⟩⟩

theorem State.dueExpiries_nodup (s : State) : s.dueExpiries.Nodup :=
  (orderBy_perm _ _).nodup_iff.mpr (allExpiries_nodup.filter _)

/-- A tick is one microsecond of the time base (R104). -/
@[simp] theorem State.tick_timeBase (s : State) : s.tick.timeBase = s.timeBase + 1 := rfl

/-! ## The receiver -/

/-- The bits of a byte make that byte. -/
theorem byteOfBits_byteBits (b : Byte) : byteOfBits (byteBits b) = b := by revert b; decide

/-- A bit that does not complete a byte is kept. -/
theorem LinkPort.clockIn_bit {l : LinkPort} (x : Bool) (hs : l.selected = true) (hi : l.ignored = false)
    (hb : l.partialBits.length < 7) : l.clockIn x = { l with partialBits := l.partialBits ++ [x] } := by
  simp [LinkPort.clockIn, hs, hi, hb]

/-- Fewer than eight bits more than a whole number of bytes are kept. -/
theorem LinkPort.clockIn_tail (bits : List Bool) {l : LinkPort} (hs : l.selected = true) (hi : l.ignored = false)
    (hb : l.partialBits.length + bits.length ≤ 7) :
    bits.foldl LinkPort.clockIn l = { l with partialBits := l.partialBits ++ bits } := by
  induction bits generalizing l with
  | nil => simp
  | cons x rest ih =>
    simp only [List.length_cons] at hb
    have e := ih (l := { l with partialBits := l.partialBits ++ [x] }) hs hi (by
      simp only [List.length_append, List.length_singleton]; omega)
    rw [List.foldl_cons, LinkPort.clockIn_bit x hs hi (by omega), e, List.append_assoc, List.singleton_append]

/-- The eight bits of a byte, from a whole number of bytes on: one byte more, kept among the last twelve. -/
theorem LinkPort.clockIn_byte {l : LinkPort} (b : Byte) (hs : l.selected = true) (hi : l.ignored = false)
    (hb : l.partialBits = []) :
    (byteBits b).foldl LinkPort.clockIn l =
      { l with
        byteCount := l.byteCount + 1, lastBytes := (l.lastBytes ++ [b]).drop ((l.lastBytes ++ [b]).length - 12) } := by
  have e : byteBits b = (byteBits b).take 7 ++ [b.getLsbD 0] := rfl
  have n : l.partialBits.length + ((byteBits b).take 7).length ≤ 7 := by rw [hb]; exact Nat.le_refl 7
  rw [e, List.foldl_append, LinkPort.clockIn_tail _ hs hi n]
  simp only [hb, List.nil_append, List.foldl_cons, List.foldl_nil, LinkPort.clockIn]
  rw [← e, byteOfBits_byteBits]
  simp [hs, hi, byteBits]

/-- A frame that a reset ignores takes in no bit. -/
theorem LinkPort.clockIn_ignored (bits : List Bool) {l : LinkPort} (hi : l.ignored = true) :
    bits.foldl LinkPort.clockIn l = l := by
  induction bits with
  | nil => rfl
  | cons x rest ih => simpa [LinkPort.clockIn, hi] using ih

/-- Bits on SDI change nothing but their port's receiver, one by one. -/
theorem State.foldl_sckRises (s : State) (p : Port) (bits : List Bool) :
    bits.foldl (fun t x => t.sckRises p x) s = s.setPort p (bits.foldl LinkPort.clockIn (s.port p)) := by
  induction bits generalizing s with
  | nil => simp [State.setPort, State.port]
  | cons x rest ih =>
    rw [List.foldl_cons, ih]
    simp [State.sckRises, State.setPort, State.port]

end Sys2Proof.Machine
end

