-- ==== Sys2Proof/Tests/Slice0.lean ====
section
/-!
SUPPORT. Tests of the model against the manual's own figures, and for every statement with hypotheses a state and operands that
meet them. Expected values come from the manual's tables and worked sequences, named at each test.
-/

namespace Sys2Proof.Tests

open Sys2Proof.Machine

/-! ## Well-formed commands, frames and the table's words -/

/-- R165: a known code is no UNKNOWN. -/
theorem test_unknown_with_a_known_code_is_ill_formed : (Instr.unknown .M 0 0x10#8).wf = false := by decide

theorem test_unknown_with_another_code_is_well_formed :
    (Instr.unknown .M 0 0x11#8).wf = true ∧ (Instr.unknown .M 0 0x00#8).wf = true := by decide

/-- The NOP frame of 10.1, whose CRC the manual works out as $DC. -/
def nopFrame : List Byte := [0x01#8, 0#8, 0#8, 0#8, 0#8, 0#8, 0#8, 0#8, 0#8, 0#8, 0#8, 0xDC#8]

/-- A frame whose CRC is right is no BAD_CRC. -/
theorem test_bad_crc_with_a_good_crc_is_ill_formed : (Instr.badCrc .B 0 (twelve nopFrame)).wf = false := by decide +kernel

theorem test_bad_crc_with_a_bad_crc_is_well_formed :
    (Instr.badCrc .B 0 (twelve (nopFrame.take 11 ++ [0xDD#8]))).wf = true := by decide +kernel

/-- 10.1, worked CRC. -/
theorem test_nop_frame_decodes : decodeFrame .M nopFrame 0 = .nop .M 0 := by decide +kernel

/-- 10.1: a last byte of $DD is answered BAD_CRC. -/
theorem test_nop_frame_with_dd_is_bad_crc :
    decodeFrame .M (nopFrame.take 11 ++ [0xDD#8]) 0 = .badCrc .M 0 (twelve (nopFrame.take 11 ++ [0xDD#8])) := by decide +kernel

/-- R163: eleven whole bytes and seven bits are a short frame. -/
theorem test_eleven_bytes_are_short : decodeFrame .C (nopFrame.take 11) 7 = .shortFrame .C 95 := by decide +kernel

/-- R163: the last twelve whole bytes count. -/
theorem test_longer_frame_keeps_its_last_twelve : decodeFrame .C (0x55#8 :: nopFrame) 3 = .nop .C 11 := by decide +kernel

/-- The body of a frame with the CRC of its bytes. -/
def framed (body : List Byte) : List Byte := body ++ [crc8 body]

/-- R167: POST carries slot in ARG, sense, tier, weight, asked and lease in data 0 to 5: B/0 COOL DRIVE weight 6 asked 80 lease 10. -/
theorem test_post_frame_decodes :
    decodeFrame .B (framed [0x02#8, 0x00#8, 0x00#8, 0x02#8, 0x06#8, 0x00#8, 0x50#8, 0x0A#8, 0#8, 0#8, 0#8]) 0 =
      .post .B 0 0#8 0#8 2#8 6#8 80#16 10#8 := by decide +kernel

/-- R167: SETP of CONV_PT 0 ($1A): code 220 and temperature 1500, a pair in data 0 to 3. -/
theorem test_setp_frame_decodes :
    decodeFrame .M (framed [0x07#8, 0x1A#8, 0x00#8, 0xDC#8, 0x05#8, 0xDC#8, 0#8, 0#8, 0#8, 0#8, 0#8]) 0 =
      .setp .M 0 0x1A#8 220#16 1500#16 := by decide +kernel

/-- R167: FORCE's release option in data 0, the duty in data 1 and 2. -/
theorem test_force_frames_decode :
    decodeFrame .C (framed [0x0B#8, 0x01#8, 0x00#8, 0x02#8, 0xBC#8, 0#8, 0#8, 0#8, 0#8, 0#8, 0#8]) 0 =
      .force .C 0 1#8 700#16 ∧
    decodeFrame .C (framed [0x0B#8, 0x01#8, 0x80#8, 0x02#8, 0xBC#8, 0#8, 0#8, 0#8, 0#8, 0#8, 0#8]) 0 =
      .forceRelease .C 0 1#8 := by decide +kernel

/-- R167: ACK carries a notice set most significant byte first: ALLOWANCE is bit 0 of the first byte. -/
theorem test_ack_frame_decodes :
    decodeFrame .B (framed [0x0F#8, 0#8, 0x01#8, 0x41#8, 0#8, 0#8, 0#8, 0#8, 0#8, 0#8, 0#8]) 0 = .ack .B 0 0x141#16 := by
  decide +kernel

/-- R162: the bits of a frame, of a byte before it and of a byte that is not finished, clocked in on a selected port. -/
theorem test_bits_make_a_frame :
    ((((0x55#8 :: nopFrame).flatMap byteBits ++ [true, false, true]).foldl (fun t x => t.sckRises .C x)
      (State.reset.selectAsserted .C)).selectReleased .C).pending = [.nop .C 11] := by decide +kernel

/-- R162: a frame that a reset falls into is ignored, and the port reads the next one. -/
theorem test_a_frame_across_a_reset_is_ignored :
    let bits (t : State) : State := (nopFrame.flatMap byteBits).foldl (fun u x => u.sckRises .M x) t
    let reset (t : State) : State := match exec .resetLineReset t with
      | .next u => u
      | .fault _ => t
      | .refused _ => t
    let t := (bits (reset (bits (State.reset.selectAsserted .M)))).selectReleased .M
    t.pending = [] ∧ ((bits (t.selectAsserted .M)).selectReleased .M).pending = [.nop .M 0] := by decide +kernel

/-- No row of the table gives bits (log 17). -/
theorem test_no_table_word_spells_a_command (n w : Nat) :
    decodeTableWord n w = none ∧ State.reset.withFetchWord n w = State.reset := ⟨rfl, rfl⟩

/-! ## States -/

/-- The state a command leaves. -/
def after (c : Instr) (s : State) : State :=
  match exec c s with
  | .next t => t
  | .fault _ => s
  | .refused _ => s

/-- A part in RUN and PARK with nothing posted: LOST acknowledged, guards ARMED, SAFE in force, the valve SETTLED in SEPARATE, the
cycle timer and the dormant timer just run out. -/
def inRun : State :=
  { State.reset with
    ports := mapTable (fun l => { l with flags := 0#9, attention := false }) State.reset.ports
    setup := { State.reset.setup with state := .run, votes := Vector.replicate 3 true }
    alloc := { State.reset.alloc with cycleLength := 1000000, cycleLeft := some 0, inForce := .safe }
    valve := { State.reset.valve with state := .settled, attempt := 0, travel := none, dwell := some 30000000 }
    regime := { State.reset.regime with regime := .park, dormant := some 0 }
    zones := mapTable (fun z => { z with guard := .armed }) State.reset.zones }

/-- The same part in DORMANT. -/
def asleep : State :=
  { inRun with
    regime := { inRun.regime with regime := .dormant, dormant := none }
    pwm := mapTable PwmChannel.toZero inRun.pwm }

/-- A demand of B/0 as a POST leaves it. -/
def demandB0 : Demand :=
  { state := .waiting, sense := .cool, tier := .drive, weight := 6, asked := 80, granted := 0, leaseLength := 10,
    lease := some 10000000, starveCount := 0, starveMark := false }

/-- The part in RUN with B/0 standing. -/
def posted : State :=
  { inRun with
    demands := put inRun.demands 5 demandB0, age := [5], regime := { inRun.regime with dormant := none } }

/-- The same part with the lease of B/0 run out. -/
def expired : State := { posted with demands := put inRun.demands 5 { demandB0 with lease := some 0 } }

/-- The part in RUN with a guard as given on MOTOR: HIGH selected with the value expected. -/
def guarded (g : GuardState) (expect action : Int) : State :=
  { inRun with
    zones := put inRun.zones 0 { inRun.zones.get 0 with guard := g }
    params :=
      put (put (put inRun.params (Param.guardSelect .motor).place ⟨1, 0, true, some .M⟩)
        (Param.guardExpect .motor).place ⟨expect, 0, true, some .M⟩)
        (Param.guardAction .motor).place ⟨action, 0, true, some .M⟩ }

/-- Values for the required parameters: the conversion table of 5.3 and the maps of 8.3, the rest within range. -/
def sample : Param → Option (Int × Int × Port)
  | .compMax => some (160, 0, .M)
  | .ptcMax => some (120, 0, .M)
  | .radK => some (20, 0, .M)
  | .convPt 0 => some (220, 1500, .C)
  | .convPt 1 => some (520, 1000, .C)
  | .convPt 2 => some (980, 700, .C)
  | .convPt 3 => some (1620, 400, .C)
  | .convPt 4 => some (2350, 150, .C)
  | .convPt 5 => some (3050, -50, .C)
  | .convPt 6 => some (3600, -250, .C)
  | .convPt 7 => some (3900, -400, .C)
  | .compMap 0 => some (20, 250, .C)
  | .compMap 1 => some (60, 450, .C)
  | .compMap 2 => some (120, 750, .C)
  | .compMap 3 => some (200, 1000, .C)
  | .fanMap 0 => some (40, 200, .C)
  | .fanMap 1 => some (100, 450, .C)
  | .fanMap 2 => some (180, 800, .C)
  | .fanMap 3 => some (240, 1000, .C)
  | .pumpMap .motor 0 => some (30, 300, .M)
  | .pumpMap .motor 1 => some (90, 550, .M)
  | .pumpMap .motor 2 => some (200, 850, .M)
  | .pumpMap .motor 3 => some (400, 1000, .M)
  | .pumpMap .battery 0 => some (20, 250, .B)
  | .pumpMap .battery 1 => some (80, 500, .B)
  | .pumpMap .battery 2 => some (160, 800, .B)
  | .pumpMap .battery 3 => some (300, 1000, .B)
  | .high z => some (900, 0, zonePort z)
  | .low z => some (100, 0, zonePort z)
  | .kFlow l => some (250, 0, match l with
    | .motor => .M
    | .battery => .B)
  | _ => none

/-- A parameter of the loaded part. -/
def sampleEntry (q : Param) : ParamEntry :=
  match sample q with
  | some (v, w, p) => { value := v, second := w, written := true, writer := some p }
  | none => ParamEntry.initial q

/-- The part in SETUP with every required parameter written, and the start votes of ports M and B standing. -/
def loaded : State :=
  { State.reset with
    params := ⟨⟨allParams.map sampleEntry⟩, by decide⟩
    setup := { State.reset.setup with votes := #v[true, true, false] } }

theorem loaded_param (q : Param) : loaded.param q = sampleEntry q := by
  obtain ⟨h, e⟩ := List.getElem?_eq_some_iff.mp (allParams_place q)
  simp [loaded, State.param, Vector.get_eq_getElem, e]

/-- Ports M and B PRESENT and voting CHARGE, HV_READY asserted, in PRIMING. -/
def priming : State :=
  { inRun with
    regime := { inRun.regime with regime := .priming, voteB := .charge, dormant := none, prime := some 0 }
    hvReady := true }

/-- A channel holding its value and a flow channel with a reference edge, the timers of both just run out. -/
def sensed : State :=
  { inRun with
    temps := put inRun.temps 4 { inRun.temps.get 4 with tag := .stale, filtered := 120, hold := some 0 }
    flows := put inRun.flows 1 { inRun.flows.get 1 with reference := some 7, stall := some 0 }
    timeBase := 2000007 }

/-- One record in the ring, not yet read by any port. -/
def recorded : State :=
  { inRun with
    ring :=
      { records :=
          [{ seq := 1, regime := .drive, valveState := .settled, toMode := .series, compTotal := 160, radTotal := 100,
             ptcTotal := 36, scavTotal := 5 }]
        appended := 1 } }

/-! ## The states are sound -/

theorem inRun_ports : inRun.PortsOk where
  line p := by cases p <;> rfl
  lostEnabled p := by cases p <;> rfl
  allowanceOnB p _ := by cases p <;> rfl
  timedPresent p _ := by cases p <;> rfl
  receiving p := by cases p <;> decide
  idle p := by cases p <;> decide
  ignoring p := by cases p <;> decide
  ringLength := rfl
  cursors p := by cases p <;> decide

theorem inRun_params : inRun.ParamsOk := by
  have e (q : Param) : inRun.param q = ParamEntry.initial q := initialParams_get q
  constructor
  · intro q h; simp [e, ParamEntry.initial] at h
  · intro q h; simp [e, ParamEntry.initial] at h
  · exact fun q _ => e q
  · intro h; simp [e, ParamEntry.initial] at h

theorem free_demandsOk {s : State} (h : ∀ i, s.demand i = Demand.freeSlot) (a : s.age = []) : s.DemandsOk := by
  constructor <;> simp [h, a, Demand.freeSlot, Demand.stands, Demand.GrantedOk]

theorem inRun_alloc : inRun.AllocOk := by
  constructor <;> simp [inRun, State.reset, State.afterReset, State.running]

theorem inRun_valve : inRun.ValveOk := by constructor <;> decide

theorem inRun_regime : inRun.RegimeOk := by constructor <;> decide

theorem inRun_sensing : inRun.SensingOk where
  filtered c := by cases c <;> decide
  reading c := by cases c <;> decide
  hold c := by cases c <;> decide
  recover c := by cases c <;> decide
  started c := by cases c <;> decide
  stalled l := by cases l <;> decide
  flowRange l := by cases l <;> decide
  referenced l := by cases l <;> decide
  referencePast l r h := absurd h (by cases l <;> exact nofun)
  stallWithin l r left h := absurd h (by cases l <;> exact nofun)
  periods l := by cases l <;> decide

theorem inRun_zones : inRun.ZonesOk where
  blind z := by cases z <;> decide
  stall l := by cases l <;> decide
  cabin := by decide
  highJudged z _ := by cases z <;> decide
  lowJudged z _ := by cases z <;> decide
  short l := by cases l <;> decide
  counters l := by cases l <;> decide
  unmeasured l := by cases l <;> decide
  trips z := by cases z <;> decide
  unarmed z := by cases z <;> decide
  armed z := by cases z <;> decide
  tripped z := by cases z <;> decide
  synthetic z := by cases z <;> decide
  shed := ⟨fun h => absurd h (by decide), fun ⟨z, h, _⟩ => by cases z <;> exact absurd h (by decide)⟩

theorem inRun_outputs : inRun.OutputsOk := by
  constructor
  · intro c
    cases c <;>
      exact ⟨by decide, by decide, by decide, fun _ h => (nomatch (show (none : Option Nat) = some _ from h)),
        fun _ h => (nomatch (show (none : Option Nat) = some _ from h))⟩
  · intro _ c; cases c <;> rfl
  · intro h; exact absurd h (by decide)
  · intro h; exact absurd h (by decide)

/-- The part in RUN is sound. -/
theorem inRun_ok : inRun.Ok :=
  { ports := inRun_ports, params := inRun_params,
    demands := free_demandsOk (fun i => get_replicate (n := 15) Demand.freeSlot i) rfl, alloc := inRun_alloc,
    valve := inRun_valve, regime := inRun_regime, sensing := inRun_sensing, zones := inRun_zones, outputs := inRun_outputs }

/-- A change of the queue alone keeps soundness. -/
theorem ok_with_pending {s : State} (h : s.Ok) (l : List Instr) : ({ s with pending := l } : State).Ok :=
  { ports := h.ports.congr rfl rfl, params := h.params.congr rfl, demands := h.demands.congr rfl rfl,
    alloc := h.alloc.congr rfl rfl, valve := h.valve.congr rfl, regime := h.regime.congr rfl rfl rfl rfl rfl,
    sensing := h.sensing.congr rfl rfl rfl rfl, zones := h.zones.congr rfl rfl rfl rfl rfl rfl rfl rfl,
    outputs := h.outputs.congr rfl rfl rfl }

/-- The part in DORMANT is sound. -/
theorem asleep_ok : asleep.Ok :=
  { ports := inRun_ok.ports.congr rfl rfl, params := inRun_ok.params.congr rfl, demands := inRun_ok.demands.congr rfl rfl,
    alloc := inRun_ok.alloc.congr rfl rfl, valve := inRun_ok.valve.congr rfl
    regime := by constructor <;> decide
    sensing := inRun_ok.sensing.congr rfl rfl rfl rfl, zones := inRun_ok.zones.congr rfl rfl rfl rfl rfl rfl rfl rfl
    outputs := by
      constructor
      · intro c
        cases c <;>
          exact ⟨by decide, by decide, by decide, fun _ h => (nomatch (show (none : Option Nat) = some _ from h)),
            fun _ h => (nomatch (show (none : Option Nat) = some _ from h))⟩
      · intro _ c; cases c <;> rfl
      · intro _ c; cases c <;> decide
      · intro h; exact absurd h (by decide) }

theorem posted_demand : ∀ i, posted.demand i = if i = 5 then demandB0 else Demand.freeSlot := by decide

/-- The part with B/0 standing has a sound Demand Table. -/
theorem posted_demands : posted.DemandsOk where
  ageNodup := by decide
  ageExact := by decide
  freeClear := by decide
  ranges := by decide
  granted i := by rw [posted_demand]; split <;> rfl
  episode := by decide
  leased z k h := by
    rw [posted_demand] at h ⊢
    split
    · exact ⟨by decide, by decide, 10000000, rfl, by decide⟩
    · next e => simp [e, Demand.freeSlot, Demand.stands] at h
  synthetic z := by cases z <;> decide
  motorCools := by decide
  chargeOnBattery := by decide
  oneSense z := by cases z <;> decide

theorem posted_regime : posted.RegimeOk := by constructor <;> decide

theorem expired_demand : ∀ i, expired.demand i = if i = 5 then { demandB0 with lease := some 0 } else Demand.freeSlot := by
  decide

theorem expired_demands : expired.DemandsOk where
  ageNodup := by decide
  ageExact := by decide
  freeClear := by decide
  ranges := by decide
  granted i := by rw [expired_demand]; split <;> rfl
  episode := by decide
  leased z k h := by
    rw [expired_demand] at h ⊢
    split
    · exact ⟨by decide, by decide, 0, rfl, by decide⟩
    · next e => simp [e, Demand.freeSlot, Demand.stands] at h
  synthetic z := by cases z <;> decide
  motorCools := by decide
  chargeOnBattery := by decide
  oneSense z := by cases z <;> decide

theorem expired_regime : expired.RegimeOk := by constructor <;> decide

/-- The loaded part is sound. -/
theorem loaded_ok : loaded.Ok where
  ports :=
    ⟨fun p => by cases p <;> rfl, fun p => by cases p <;> rfl, fun p _ => by cases p <;> rfl, fun p _ => by cases p <;> rfl,
      fun p => by cases p <;> decide, fun p => by cases p <;> decide, fun p => by cases p <;> decide, rfl,
      fun p => by cases p <;> decide⟩
  params := by
    constructor
    · intro q h
      rw [loaded_param] at h ⊢
      cases q with
      | convPt i => fin_cases i <;> simp [sampleEntry, sample, Param.row, Domain.Admits]
      | compMap i => fin_cases i <;> simp [sampleEntry, sample, Param.row, Domain.Admits]
      | fanMap i => fin_cases i <;> simp [sampleEntry, sample, Param.row, Domain.Admits]
      | pumpMap l i => cases l <;> fin_cases i <;> simp [sampleEntry, sample, Param.row, Domain.Admits]
      | _ => first
        | (simp [sampleEntry, sample, Param.row, Domain.Admits]; done)
        | simp [sampleEntry, sample, ParamEntry.initial] at h
    · intro q h
      rw [loaded_param] at h ⊢
      cases q with
      | convPt i => fin_cases i <;> exact ⟨.C, rfl, .inl rfl⟩
      | compMap i => fin_cases i <;> exact ⟨.C, rfl, .inl rfl⟩
      | fanMap i => fin_cases i <;> exact ⟨.C, rfl, .inl rfl⟩
      | pumpMap l i =>
        cases l <;> fin_cases i <;> first | exact ⟨.M, rfl, .inr rfl⟩ | exact ⟨.B, rfl, .inr rfl⟩
      | high z => cases z <;> exact ⟨_, rfl, .inr rfl⟩
      | low z => cases z <;> exact ⟨_, rfl, .inr rfl⟩
      | kFlow l => cases l <;> exact ⟨_, rfl, .inr rfl⟩
      | _ => first
        | exact ⟨.M, rfl, .inl rfl⟩
        | simp [sampleEntry, sample, ParamEntry.initial] at h
    · intro q h
      rw [loaded_param] at h ⊢
      unfold sampleEntry at h ⊢
      split
      · next v w p e => simp [e] at h
      · rfl
    · intro _; decide
  demands := free_demandsOk (fun i => get_replicate (n := 15) Demand.freeSlot i) rfl
  alloc := by constructor <;> simp [loaded, State.reset, State.afterReset, State.running]
  valve := by constructor <;> decide
  regime := by constructor <;> decide
  sensing :=
    ⟨fun c => by cases c <;> decide, fun c => by cases c <;> decide, fun c => by cases c <;> decide,
      fun c => by cases c <;> decide, fun c => by cases c <;> decide, fun l => by cases l <;> decide,
      fun l => by cases l <;> decide, fun l => by cases l <;> decide,
      fun l _ h => absurd h (by cases l <;> exact nofun), fun l _ _ h => absurd h (by cases l <;> exact nofun),
      fun l => by cases l <;> decide⟩
  zones :=
    ⟨fun z => by cases z <;> decide, fun l => by cases l <;> decide, by decide, fun z _ => by cases z <;> decide,
      fun z _ => by cases z <;> decide, fun l => by cases l <;> decide, fun l => by cases l <;> decide,
      fun l => by cases l <;> decide, fun z => by cases z <;> decide, fun z => by cases z <;> decide,
      fun z => by cases z <;> decide, fun z => by cases z <;> decide, fun z => by cases z <;> decide,
      ⟨fun h => absurd h (by decide), fun ⟨z, h, _⟩ => by cases z <;> exact absurd h (by decide)⟩⟩
  outputs := by
    constructor
    · intro c
      cases c <;>
        exact ⟨by decide, by decide, by decide, fun _ h => (nomatch (show (none : Option Nat) = some _ from h)),
          fun _ h => (nomatch (show (none : Option Nat) = some _ from h))⟩
    · intro h; exact absurd h (by decide)
    · intro h; exact absurd h (by decide)
    · intro _ c; cases c <;> decide

/-! ## Every statement with hypotheses has a state and operands that meet them -/

theorem witness_StepRunsTheFrontCommand :
    ({ inRun with pending := [.cycleExpiry, .nop .M 0] } : State).pending = .cycleExpiry :: [.nop .M 0] := rfl

theorem witness_EmptyQueueStepIsOneMicrosecond : inRun.pending = [] := rfl

/-- Eight bits of an earlier byte and three bits of a later one around the frame: 107 clocks. -/
theorem witness_DecodeOfEncodeIsTheCommand :
    (Instr.nop .M 11).wf = true ∧ encodeGood (.nop .M 11) = some nopFrame ∧
      (Instr.nop .M 11).frameOn = some (.M, 8 * ([0x55#8].length + 12) + (3 : Fin 8).val) := by decide +kernel

/-- Frames of right CRC that no encoder writes: NOP with every unused byte $FF, FORCE with release option 2, byte 0 at $00 and $11. -/
theorem witness_DecodeOfEncodeIsTheCommand_any_bytes :
    let last (code option : Byte) : Vector Byte 12 := twelve (framed [code, 3#8, option, 0xFF#8, 0xFF#8, 0#8, 0#8, 0#8, 0#8, 0#8, 0#8])
    ([0x01#8, 0x0B#8, 0x00#8, 0x11#8].all fun code =>
        crc8 ((last code 2#8).toList.take 11) == (last code 2#8).get 11) = true ∧
      decodeFrame .B (last 0x01#8 0xFF#8).toList 0 = .nop .B 0 ∧
      decodeFrame .B (last 0x0B#8 2#8).toList 0 = .forceRelease .B 0 3#8 ∧
      decodeFrame .B (last 0x11#8 2#8).toList 0 = .unknown .B 0 0x11#8 := by decide +kernel

/-- Seven bits over; a port between frames and one in a frame, at a reset; eleven bytes and twelve. -/
theorem witness_ReceiverReadsFramesFromBits :
    [true, true, true, true, true, true, true].length < 8 ∧ (inRun.port .M).selected = false ∧
      ((inRun.selectAsserted .M).port .M).selected = true ∧ Instr.isReset .supplyDipReset = true ∧
      exec .supplyDipReset (inRun.selectAsserted .M) = .next (after .supplyDipReset (inRun.selectAsserted .M)) ∧
      (nopFrame.take 11).length < 12 ∧ [0x55#8] ++ (twelve nopFrame).toList = [0x55#8] ++ nopFrame ∧
      crc8 (((twelve (nopFrame.take 11)).toList).take 11) ≠ (twelve (nopFrame.take 11)).get 11 :=
  ⟨by decide, by decide, by decide, rfl, rfl, by decide, by decide, by decide +kernel⟩

/-- The part in RUN with a port gone ABSENT. -/
def absent (p : Port) : State := inRun.setPort p { inRun.port p with presence := .absent }

/-- The part in RUN with port M gone ABSENT while it votes DRIVE. -/
def absentM : State :=
  { inRun with
    ports := put inRun.ports 0 { inRun.ports.get 0 with presence := .absent }, regime := { inRun.regime with voteM := .drive } }

/-- A PRESENT port, an ABSENT one in SETUP, port C ABSENT; DORMANT, and an ABSENT port whose return changes the regime or leaves
it. -/
theorem witness_GoodFramesRestartWakeAndRestore :
    (inRun.regime.regime ≠ .dormant ∧ (inRun.port .M).presence = .present) ∧
    (State.reset.regime.regime ≠ .dormant ∧ State.reset.running = false) ∧
    (asleep.running = true ∧ asleep.regime.regime = .dormant) ∧
    ((absent .C).regime.regime ≠ .dormant ∧ ((absent .C).port .C).presence = .absent) ∧
    (absentM.running = true ∧ (absentM.port .M).presence = .absent ∧
      (absentM.frameArrives .M 0).regime.regime ≠ absentM.regime.regime) ∧
    ((absent .B).running = true ∧ ((absent .B).port .B).presence = .absent ∧
      ((absent .B).frameArrives .B 0).regime.regime = (absent .B).regime.regime) := by decide

theorem witness_FramesCarryTheReplyAndStayOnTheirPort :
    (Instr.shortFrame .B 95).frameOn = some (.B, 95) ∧ (Instr.nop .B 0).frameOn = some (.B, 96) ∧
      exec (.nop .B 0) inRun = .next (after (.nop .B 0) inRun) ∧
      exec (.shortFrame .B 95) inRun = .next (after (.shortFrame .B 95) inRun) := ⟨rfl, rfl, rfl, rfl⟩

/-- The lowest and the highest posted slot. -/
theorem witness_PostTakenWritesItsSlot :
    inRun.postVerdict .B 0#8 1#8 1#8 1#16 = none ∧ inRun.postVerdict .M 3#8 0#8 0#8 480#16 = none ∧
      posted.postVerdict .B 0#8 1#8 3#8 1#16 = none := by decide

/-- Each status, at the first value that a check refuses. -/
theorem witness_PostRefusedLeavesTheTable :
    State.reset.postVerdict .B 9#8 9#8 9#8 0#16 = some .notRunning ∧
    (after (.linkTimerExpiry .B) { inRun with ports := mapTable (fun l => { l with linkTimer := some 0 }) inRun.ports }).postVerdict
      .B 9#8 9#8 9#8 0#16 = some .lostUnacked ∧
    inRun.postVerdict .B 4#8 0#8 0#8 1#16 = some .badArg ∧ inRun.postVerdict .B 3#8 2#8 0#8 1#16 = some .badArg ∧
    inRun.postVerdict .B 3#8 0#8 4#8 1#16 = some .badArg ∧ inRun.postVerdict .M 3#8 1#8 0#8 1#16 = some .badArg ∧
    inRun.postVerdict .C 3#8 0#8 1#8 1#16 = some .badArg ∧ inRun.postVerdict .B 3#8 0#8 1#8 0#16 = some .badArg ∧
    posted.postVerdict .B 1#8 1#8 1#8 1#16 = some .senseConflict := by decide

/-- The last set taken and the first refused, in RUN and in SETUP. -/
theorem witness_RenewAndDropActOnTheNamedSlots :
    (posted.DemandsOk ∧ posted.RegimeOk ∧ posted.running = true ∧ (15#8).toNat < 16 ∧ 16 ≤ (16#8).toNat) ∧
      State.reset.running = false := ⟨⟨posted_demands, posted_regime, rfl, by decide, by decide⟩, rfl⟩

/-- A lease that has run out, and one with time left. -/
theorem witness_LeaseExpiryFreesItsSlot :
    (expired.DemandsOk ∧ expired.RegimeOk ∧ (expired.demand (postedIx .battery 0)).lease = some 0) ∧
      posted.DemandsOk ∧ posted.RegimeOk ∧ (posted.demand (postedIx .battery 0)).lease = some 10000000 :=
  ⟨⟨expired_demands, expired_regime, by decide⟩, posted_demands, posted_regime, by decide⟩

/-- R14: a RENEW or a POST taken first restarts the lease, and the expiry does not happen. -/
theorem test_renew_before_the_lease_expiry :
    (after (.leaseExpiry .battery 0) (after (.renew .B 0 1#8) expired)).age = [5] ∧
      (after (.leaseExpiry .battery 0) expired).age = [] := by decide

/-- R46: a cycle expiry that brings a fresh lease, taken first, leaves no lease to expire. -/
theorem test_fresh_lease_before_the_lease_expiry :
    let s : State :=
      { inRun with alloc := { inRun.alloc with inForce := .granted 5, allowLease := some 0, pendingAllow := some (90, 20) } }
    (after .allowanceLeaseExpiry s).alloc.inForce = .safe ∧
      (after .allowanceLeaseExpiry (after .cycleExpiry s)).alloc.inForce = .granted 90 := by decide +kernel

/-- R169: a good frame taken first restarts the link timer, and the port stays PRESENT. -/
theorem test_frame_before_the_link_expiry :
    let s := inRun.setPort .M { inRun.port .M with linkTimer := some 0 }
    ((after (.linkTimerExpiry .M) (after (.nop .M 0) s)).port .M).presence = .present ∧
      ((after (.linkTimerExpiry .M) s).port .M).presence = .absent := by decide

/-- R51: an ALLOW that port M sends in RUN is answered with the allowance in force, SAFE at 60 eu. -/
theorem test_refused_allow_reports_the_allowance :
    ((after (.allow .M 0 200#16 9#8) inRun).port .M).staged =
      { status := .badArg, echo := 0x05#8, data := #v[0#8, 0#8, 0#8, 0#8, 60#8, 1#8, 0#8, 0#8, 0#8] } := by decide

/-- R167: one byte for an enumerated value, its place in its list, and for a count up to 255; two for another quantity: CYCLE_PARK
1000 is the fourth of its four values and AVG 4 the second of its three, LINK_TIMEOUT 3 s, DORMANT_DELAY 120 s. -/
theorem test_parameter_widths :
    ((after (.getp .M 0 0x02#8) State.reset).port .M).staged.data =
        #v[0x02#8, 3#8, 0#8, 0#8, 0#8, 0#8, 0#8, 0#8, 0#8] ∧
      ((after (.getp .M 0 0x49#8) State.reset).port .M).staged.data =
        #v[0x49#8, 1#8, 0#8, 0#8, 0#8, 0#8, 0#8, 0#8, 0#8] ∧
      ((after (.getp .M 0 0x16#8) State.reset).port .M).staged.data =
        #v[0x16#8, 3#8, 0#8, 0#8, 0#8, 0#8, 0#8, 0#8, 0#8] ∧
      ((after (.getp .M 0 0x15#8) State.reset).port .M).staged.data =
        #v[0x15#8, 0#8, 120#8, 0#8, 0#8, 0#8, 0#8, 0#8, 0#8] := by decide

/-- Two claims of one tier above one of another; and in the second case a pool whose every share by weight is 0. -/
def claims : List Claim :=
  [{ ix := 5, tier := .drive, weight := 6, want := 80, got := 0 }, { ix := 0, tier := .drive, weight := 4, want := 100, got := 0 },
    { ix := 10, tier := .comfort, weight := 5, want := 90, got := 0 }]

theorem witness_SharingServesHigherTiersFirst :
    ([0, 5, 10] : List (Fin 15)).Nodup ∧ (claims.map Claim.ix).Nodup ∧ (∀ c ∈ claims, c.ix ∈ ([0, 5, 10] : List (Fin 15))) ∧
      (∀ c ∈ claims, c.got = 0) ∧ (sharePool [0, 5, 10] 100 claims).2.map Claim.got = [60, 40, 0] ∧
      (sharePool [0, 5, 10] 1 claims).2.map Claim.got = [0, 1, 0] := by decide +kernel

/-- The three cases of a pass: 7 hu by weight leave 1, that one is dealt to the older claim, and then the tier is finished. -/
theorem witness_SharingServesHigherTiersFirst_passes :
    shareTier .drive [0, 5, 10] (7, claims) =
        shareTier .drive [0, 5, 10]
          (1, [{ ix := 5, tier := .drive, weight := 6, want := 76, got := 4 },
            { ix := 0, tier := .drive, weight := 4, want := 98, got := 2 }, claims[2]]) ∧
      (shareTier .drive [0, 5, 10] (7, claims)).2.map Claim.got = [4, 3, 0] ∧
      (shareTier .drive [0, 5, 10] (0, claims)).2 = claims := by decide +kernel

/-- A filtered temperature of 700 tenths and no derating, so that B/0 is granted. -/
def warm : State :=
  { posted with
    params := loaded.params
    alloc := { posted.alloc with inForce := .granted 100, allowLease := some 10000000 }
    regime := { posted.regime with regime := .drive, voteM := .drive }
    temps := put posted.temps 6 { posted.temps.get 6 with tag := .good, filtered := 700 } }

theorem witness_ZonesReceiveOneSense :
    warm.DemandsOk ∧ warm.grantSet.entries.map (fun e => (e.ix, e.total)) = [(5, 80)] :=
  ⟨posted_demands.congr rfl rfl, by decide +kernel⟩

/-- A cycle timer that has run out on sound ports, in an expiry that changes no condition of a zone. -/
theorem witness_CycleExpiryPublishesAGrantSet :
    inRun.alloc.cycleLeft = some 0 ∧ inRun.PortsOk ∧
      ∀ z, ((after .cycleExpiry inRun).zone z).cond = (inRun.zone z).cond :=
  ⟨rfl, inRun_ports, fun z => by cases z <;> decide +kernel⟩

/-- A cycle timer that has run out, in PARK and in DORMANT; the other statements on a cycle expiry ask for nothing else. -/
theorem witness_CycleExpiry : inRun.alloc.cycleLeft = some 0 ∧ asleep.alloc.cycleLeft = some 0 ∧
    asleep.cycleGrants.regime = .dormant ∧ inRun.cycleGrants.regime ≠ .dormant ∧ State.reset.alloc.cycleLeft = none := by
  decide +kernel

/-- A battery that wants cooling above ambient, and one that wants heating below a warm motor. -/
def moved (tmOut tbOut ta : Int) (x : Sense) : State :=
  { posted with
    demands := put posted.demands 5 { demandB0 with sense := x }
    params := put posted.params (Param.scavK).place ⟨40, 0, true, some .M⟩
    temps :=
      put (put (put posted.temps 0 { TempChannel.initial with filtered := tmOut, tag := .good })
        2 { TempChannel.initial with filtered := tbOut, tag := .good })
        5 { TempChannel.initial with filtered := ta, tag := .good } }

theorem witness_CandidateModeFollowsTheBattery :
    (moved 560 410 360 .cool).DemandsOk ∧ (moved 560 410 360 .cool).candidate = .series ∧
      (moved 561 410 360 .cool).candidate = .separate ∧ (moved 560 410 361 .cool).candidate = .separate ∧
      (moved 490 410 0 .heat).candidate = .scavenge ∧ (moved 489 410 0 .heat).candidate = .separate :=
  ⟨posted_demands.congr rfl rfl, by decide, by decide, by decide, by decide, by decide⟩

/-- A valve in each of its four states, its travel timer run out where it runs. -/
def valveIn (x : ValveState) (attempt : Nat) : State :=
  match x with
  | .settled => inRun
  | .travel => { inRun with valve := { State.reset.valve with attempt := attempt, travel := some 0 } }
  | .retryWait =>
    { inRun with
      valve := { State.reset.valve with state := .retryWait, attempt := attempt, travel := some 0, driveCode := 3 } }
  | .locked =>
    { inRun with valve := { State.reset.valve with state := .locked, attempt := 3, travel := none, driveCode := 3 } }

theorem witness_ValveAtArrivesAndLosesArrival :
    (valveIn .settled 0).ValveOk ∧ (valveIn .travel 1).ValveOk ∧ (valveIn .retryWait 1).ValveOk ∧
      (valveIn .locked 3).ValveOk := by
  refine ⟨inRun_valve, ?_, ?_, ?_⟩ <;> constructor <;> decide

/-- The attempts on both sides of the last. -/
theorem witness_ValveTimersDriveTheAttempts :
    (valveIn .travel 2).ValveOk ∧ (valveIn .travel 3).ValveOk ∧ (valveIn .retryWait 2).ValveOk ∧
      (after .travelTimeout (valveIn .travel 2)).valve.state = .retryWait ∧
      (after .travelTimeout (valveIn .travel 3)).valve.state = .locked := by
  refine ⟨?_, ?_, ?_, by decide, by decide⟩ <;> constructor <;> decide

theorem witness_VoteIsTakenAndResolved : inRun.RegimeOk ∧ inRun.running = true := ⟨inRun_regime, rfl⟩

/-- A resolution that changes the regime and one that does not. -/
theorem witness_ResolutionTakesTheFirstRow :
    ({ inRun with regime := { inRun.regime with voteM := .drive } } : State).resolve.regime.regime = .drive ∧
      inRun.resolve.regime.regime = inRun.regime.regime := by decide

theorem witness_HvReadyEdgesResolve : asleep.RegimeOk ∧ asleep.regime.regime = .dormant ∧ inRun.RegimeOk :=
  ⟨asleep_ok.regime, rfl, inRun_regime⟩

/-- A dormant timer that has run out, a stopped one, and a prime timer that has run out. -/
theorem witness_RegimeTimersEnterChargeAndDormant :
    (inRun.RegimeOk ∧ inRun.regime.dormant = some 0) ∧ (priming.RegimeOk ∧ priming.regime.prime = some 0 ∧
      priming.regime.dormant = none) := by
  refine ⟨⟨inRun_regime, rfl⟩, ?_, rfl, rfl⟩
  constructor <;> decide

/-- The conversion table ready, and codes at each end of each clause. -/
theorem witness_ConversionMovesItsChannel :
    loaded.tableReady = true ∧ (mapCode loaded.convPoints 219).2 = .clampedHigh ∧
      (mapCode loaded.convPoints 3901).2 = .clampedLow ∧ mapCode loaded.convPoints 3900 = (-400, .good) ∧
      mapCode loaded.convPoints 220 = (1500, .good) ∧ mapCode loaded.convPoints 3899 = (-400 + 1, .good) := by
  decide +kernel

/-- Timers that have run out, and stopped ones. -/
theorem witness_HoldAndStallExpiriesGiveUp :
    sensed.SensingOk ∧ (sensed.temp .tc).hold = some 0 ∧ (sensed.temp .ta).hold = none ∧ (sensed.flow .battery).stall = some 0 ∧
      (sensed.flow .motor).stall = none := by
  have past (l : Loop) : (sensed.flow l).reference.all (· ≤ sensed.timeBase) = true := by cases l <;> decide
  have out (l : Loop) : (sensed.flow l).stall.all (· == 0) = true := by cases l <;> decide
  refine ⟨⟨?_, ?_, ?_, ?_, ?_, ?_, ?_, ?_, fun l r h => ?_, fun l r left _ h pos => ?_, ?_⟩, by decide, by decide, by decide, by decide⟩
  case refine_9 => simpa [h] using past l
  case refine_10 => exact absurd (show left = 0 by simpa [h] using out l) (Nat.ne_of_gt pos)
  all_goals intro c; cases c <;> decide

theorem guarded_ok (g : GuardState) (expect action : Int) :
    (guarded g expect action).DemandsOk ∧ (guarded g expect action).RegimeOk ∧ (guarded g expect action).PortsOk :=
  ⟨inRun_ok.demands.congr rfl rfl, inRun_regime.congr rfl rfl rfl rfl rfl, inRun_ports.congr rfl rfl⟩

/-- A trip, a return to match, and a trip of a guard that a write finds TRIPPED without match. -/
theorem witness_GuardsTripAndReturn :
    ((guarded .armed 1 1).DemandsOk ∧ (guarded .armed 1 1).RegimeOk ∧ (guarded .armed 1 1).PortsOk) ∧
      ((guarded .armed 1 1).evaluate .motor).demand 4 ≠ Demand.freeSlot ∧
      (((guarded .tripped 0 2).evaluate .motor).zone .motor).guard = .armed ∧
      (((guarded .tripped 1 0).guardWritten .motor .shed).zone .motor).trips = 1 ∧
      (((guarded .tripped 1 0).evaluate .motor).zone .motor).trips = 0 :=
  ⟨guarded_ok _ _ _, by decide, by decide, by decide, by decide⟩

/-- The map of the fan, with its ordinates, and values on both sides of each clause. -/
theorem witness_MapsFollowTheirPoints :
    (∀ i j : Fin 4, i.val + 1 = j.val →
      (loaded.param (.fanMap i)).value.toNat < (loaded.param (.fanMap j)).value.toNat) ∧
      ([0, 1, 40, 41, 99, 100, 101, 239, 240, 241] : List Nat).map (mapDuty (loaded.mapPoints .fanMap)) =
        [0, 200, 200, 204, 445, 450, 454, 996, 1000, 1000] := by decide +kernel

/-- The part after reset with every PWM period run out. -/
def atBoundary : State := { State.reset with pwm := mapTable (fun c => { c with periodLeft := some 0 }) State.reset.pwm }

/-- A period that has run out; times left at both ends of the period begun. -/
theorem witness_PeriodBoundaryAppliesThePendingDuty :
    (atBoundary.out .fan).periodLeft = some 0 ∧ (State.reset.out .fan).periodLeft = some 1000 ∧
      0 < atBoundary.num .pwmPeriodFan ∧ 0 ≤ atBoundary.num .pwmPeriodFan ∧
      atBoundary.num .pwmPeriodFan ≤ atBoundary.num .pwmPeriodFan := by decide

/-- R134: at duty 1000 the output is active to the end of the period, at duty 400 for 400 of its 1000 microseconds. -/
theorem test_levels_of_a_period :
    ([1000, 999, 601, 600, 1, 0] : List Nat).map (fun left =>
      (({ PwmChannel.initial 1000 with periodLeft := some left } : PwmChannel).level,
        ({ PwmChannel.initial 400 with periodLeft := some left } : PwmChannel).level)) =
      [(true, true), (true, true), (true, true), (true, false), (true, false), (true, false)] := by decide

/-- Ids on both sides of the shared block, and each refusal. -/
theorem witness_SetpRefusedAndGetpOnlyAnswer :
    (∀ q : Param, q.id ≠ (0x00#8).toNat) ∧ (∀ q : Param, q.id ≠ (0x31#8).toNat) ∧ Param.cycleRun.id = (0x01#8).toNat ∧
      Param.slewHeat.id = (0x30#8).toNat ∧ (Param.high .battery).owner ≠ some (portZone .M) ∧
      Param.radK.row.live = false ∧ inRun.judgeWrite (.guardSelect .motor) 32#16 0#16 = none := by
  refine ⟨fun q h => ?_, fun q h => ?_, rfl, rfl, by decide, rfl, rfl⟩
  · exact nomatch (ofId_id q).symm.trans ((congrArg Param.ofId h).trans (by decide : Param.ofId 0x00 = none))
  · exact nomatch (ofId_id q).symm.trans ((congrArg Param.ofId h).trans (by decide : Param.ofId 0x31 = none))

/-- In SETUP a parameter of any port; in RUN a guard parameter of the port's own zone, at the last value taken. -/
theorem witness_SetpTakenStoresAndReaches :
    (loaded.ZonesOk ∧ Param.compMax.id = (0x03#8).toNat ∧ Param.compMax.owner = none ∧
      loaded.judgeWrite .compMax 10#16 0#16 = some ⟨10, 0, false⟩) ∧
    (inRun.ZonesOk ∧ (Param.guardSelect .motor).id = (0x43#8).toNat ∧
      (Param.guardSelect .motor).owner = some (portZone .M) ∧ (Param.guardSelect .motor).row.live = true ∧
      inRun.judgeWrite (.guardSelect .motor) 31#16 0#16 = some ⟨31, 0, false⟩) :=
  ⟨⟨loaded_ok.zones, rfl, rfl, rfl⟩, inRun_zones, rfl, rfl, rfl, rfl⟩

/-- The vote that stands, one that does not complete the set, and the third. -/
theorem witness_StartVotesAreKept :
    loaded.startVote .M = true ∧ loaded.running = false ∧ loaded.startVote .C = false ∧
      (∀ q, q ≠ Port.C → loaded.startVote q = true) ∧ State.reset.startVote .B = false ∧ inRun.running = true := by
  refine ⟨rfl, rfl, rfl, ?_, rfl, rfl⟩
  intro q; cases q <;> decide

/-- Every required parameter unwritten: the lowest is COMP_MAX, $03; in the loaded part none fails. -/
theorem witness_ValidationFailsAtTheLowestId :
    Param.compMax.row.default = none ∧ (State.reset.param .compMax).written = false ∧
      State.reset.lowestFailure = some (0x03, .unwritten) ∧ loaded.lowestFailure = none := by decide +kernel

theorem witness_ValidationThatPassesEntersRun :
    loaded.Ok ∧ loaded.running = false ∧ loaded.lowestFailure = none := ⟨loaded_ok, rfl, by decide +kernel⟩

/-- The last index of a class and the first beyond it. -/
theorem witness_ReadSelectsAPart :
    (inRun.object .M 0x01 14).isSome = true ∧ inRun.object .M 0x01 15 = none ∧ (inRun.object .M 0x0D 127).isSome = true ∧
      inRun.object .M 0x0E 0 = none ∧ inRun.object .M 0x00 0 = none := by decide

/-- A cursor at the empty end, and one on a record. -/
theorem witness_NextReadsTheRing :
    (inRun.PortsOk ∧ (inRun.port .M).cursor = inRun.ring.appended + 1) ∧
      (recorded.PortsOk ∧ (recorded.port .M).cursor ≠ recorded.ring.appended + 1) := by
  refine ⟨⟨inRun_ports, rfl⟩, ⟨?_, ?_, ?_, ?_, ?_, ?_, ?_, rfl, ?_⟩, by decide⟩ <;> intro p <;> cases p <;> decide

/-- A step from a sound state, for the statements on what every step keeps; the receiver's operations ask for a sound state alone. -/
theorem witness_StepsKeep :
    (∃ t, step { inRun with pending := [.cycleExpiry] } = .next t) ∧
      ({ inRun with pending := [.cycleExpiry] } : State).Ok := ⟨⟨_, rfl⟩, ok_with_pending inRun_ok _⟩

/-- RUN entered by the third START, and left by a reset. -/
theorem witness_OnlyStartEntersRunAndOnlyResetLeavesIt :
    exec (.start .C 0) loaded = .next (after (.start .C 0) loaded) ∧ loaded.running = false ∧
      (after (.start .C 0) loaded).running = true ∧ inRun.running = true ∧ (after .resetLineReset inRun).running = false :=
  ⟨rfl, rfl, by decide +kernel, rfl, rfl⟩

/-- DORMANT entered by its timer, and ended by a frame, by HV_READY and by a trip. -/
theorem witness_OnlyTheNamedEventsEndDormant :
    inRun.regime.regime ≠ .dormant ∧ (after .dormantTimerExpiry inRun).regime.regime = .dormant ∧
      asleep.regime.regime = .dormant ∧ (after (.nop .C 0) asleep).regime.regime ≠ .dormant ∧
      (after .hvReadyRise asleep).regime.regime ≠ .dormant ∧
      (({ guarded .armed 1 0 with regime := asleep.regime } : State).evaluate .motor).regime.regime ≠ .dormant := by decide

/-! ## The manual's worked figures -/

/-- 2.10, a cool day on the road: the temperatures, demands and allowance of its tables. -/
def coolDay : State :=
  let demand (x : Sense) (t : Tier) (w a : Nat) : Demand := { demandB0 with sense := x, tier := t, weight := w, asked := a }
  let good (v : Int) : TempChannel := { TempChannel.initial with filtered := v, tag := .good }
  { warm with
    demands :=
      put (put (put (put (put inRun.demands 0 (demand .cool .drive 4 100)) 5 (demand .cool .drive 6 80))
        10 (demand .heat .comfort 5 90)) 11 (demand .heat .comfort 3 40)) 6 (demand .cool .protect 2 30)
    age := [0, 5, 10, 11, 6]
    temps := #v[good 780, good 0, good 410, good 0, good 120, good 50, good 700] }

/-- 2.10: every grant by resource, in slot order a, b, e, c, d. -/
theorem test_cool_day_grants :
    coolDay.grantSet.entries.map (fun e => (e.ix, e.scav, e.rad, e.comp, e.ptc)) =
      [(0, 0, 100, 0, 0), (5, 0, 0, 80, 0), (6, 0, 0, 30, 0), (10, 0, 0, 32, 23), (11, 0, 0, 18, 13)] := by decide +kernel

/-- 2.10: pools, draws and loop totals. -/
theorem test_cool_day_totals :
    (coolDay.grantSet.radPool, coolDay.grantSet.compPool, coolDay.grantSet.ptcPool, coolDay.grantSet.compDraw,
      coolDay.grantSet.totalDraw) = (146, 160, 36, 64, 100) ∧
    coolDay.grantSet.loopTotal = #v[100, 110, 86] := by decide +kernel

/-- 2.10: the states the cycle leaves. -/
theorem test_cool_day_write_back :
    ([0, 5, 10, 11, 6] : List (Fin 15)).map (fun i => ((after .cycleExpiry coolDay).demand i).state) =
      [.served, .served, .partly, .partly, .served] := by decide +kernel

/-- 8.3: the targets of that cycle. -/
theorem test_cool_day_targets :
    allPwm.map (fun c => ((after .cycleExpiry coolDay).out c).target) = [577, 612, 450, 875, 300, 0] := by decide +kernel

/-- 5.3, worked mapping. -/
theorem test_worked_mapping :
    ([100, 980, 1800, 2700, 3900, 4000] : List Int).map (mapCode loaded.convPoints) =
      [(1500, .clampedHigh), (700, .good), (339, .good), (50, .good), (-400, .good), (-400, .clampedLow)] := by
  decide +kernel

/-- 5.4, worked filter: the first three conversions. -/
theorem test_worked_filter : filterValue 2 300 339 = 310 ∧ filterValue 2 310 339 = 317 ∧ filterValue 2 338 339 = 338 := by
  decide

/-- 5.2: codes 16 and 4080 are a short and an open, 17 and 4079 are not. -/
theorem test_fault_codes :
    isFaultCode 16 = true ∧ isFaultCode 17 = false ∧ isFaultCode 4079 = false ∧ isFaultCode 4080 = true := by decide

/-- 6.3, worked flow: the edge that completes an average of 50020 microseconds over 4 periods. -/
theorem test_worked_flow :
    ((after (.flowEdge .battery 0)
        { loaded with
          timeBase := 50020
          flows := put loaded.flows 1
            { reference := some 37500, accumulator := 37500, periods := 3, flow := 204, tag := .good, stall := none } }).flow
      .battery).flow = 199 := by decide +kernel

/-- R104: an edge in the microsecond of its reference is not taken. 6.4: a stall clears the flow. -/
theorem test_stall_clears_the_flow :
    ((after (.stallExpiry .battery) sensed).flow .battery).reference = none ∧
      (after (.flowEdge .battery 0) { sensed with timeBase := 7 }).flow .battery = sensed.flow .battery := by decide

/-- 6.7, worked delivered heat. -/
theorem test_worked_delivered_heat :
    (clampWatts (wattsOf 199 3600 68)).tdiv 50 = 97 ∧ (clampWatts (wattsOf 150 3600 (-45))).tdiv 50 = -48 := by decide

/-- 8.4: the setpoint column of the worked slew. -/
theorem test_worked_slew : slewed 520 577 50 = 570 ∧ slewed 570 577 50 = 577 ∧ slewed 450 450 50 = 450 := by decide

/-- 1.6, event 1: the record that the reply carries. -/
theorem test_post_replies_with_its_record :
    ((after (.post .B 0 0#8 0#8 2#8 6#8 80#16 10#8) inRun).port .B).staged =
      { status := .ok, echo := 0x02#8, data := #v[1#8, 0#8, 2#8, 6#8, 0#8, 80#8, 0#8, 0#8, 10#8] } := by decide +kernel

/-- 1.6, event 2: a weight of 0 is clamped to 1. -/
theorem test_post_clamps_weight_zero :
    ((after (.post .B 0 1#8 0#8 3#8 0#8 40#16 10#8) posted).port .B).staged.status = .clamped ∧
      ((after (.post .B 0 1#8 0#8 3#8 0#8 40#16 10#8) posted).demand 6).weight = 1 := by decide

/-- 1.6, event 6: RENEW of slots 0 and 3, of which slot 3 is FREE. -/
theorem test_renew_reports_the_free_slot :
    ((after (.renew .B 0 9#8) posted).port .B).staged =
      { status := .noDemand, echo := 0x03#8, data := #v[1#8, 8#8, 0#8, 0#8, 0#8, 0#8, 0#8, 0#8, 0#8] } := by decide

/-- 1.3: DROP frees the slot and it leaves the age list. -/
theorem test_drop_frees : (after (.drop .B 0 1#8) posted).age = [] ∧ (after (.drop .B 0 1#8) posted).regime.dormant =
    some 120000000 := by decide

/-- 10.7: the RESTARTED reply carries the cause and the count. -/
theorem test_reset_reply :
    ((after .supplyDipReset (after .resetLineReset State.reset)).port .C).staged.data =
      #v[2#8, 2#8, 0#8, 0#8, 0#8, 0#8, 0#8, 0#8, 0#8] := by decide

/-- 3.8: with VALVE_AT asserted at the end of a reset the valve arrives at once. -/
theorem test_reset_arrives_at_once :
    (after .powerOnReset { State.reset with valveAt := true }).valve.state = .settled := by decide

/-- 11.2: NEXT of a record, whose byte 2 packs DRIVE, SETTLED and SERIES. -/
theorem test_next_carries_the_record :
    ((after (.next .B 0) recorded).port .B).staged.data = #v[0#8, 1#8, 0x41#8, 0#8, 160#8, 0#8, 100#8, 36#8, 5#8] ∧
      ((after (.next .B 0) (after (.next .B 0) recorded)).port .B).staged.status = .empty := by decide

/-- 11.1: part 1 of an object that fits nine bytes is refused; part 1 of AGE carries the youngest seven places. -/
theorem test_read_parts :
    ((after (.read .M 0 0x06#8 0x80#8) posted).port .M).staged.status = .badArg ∧
      ((after (.read .M 0 0x02#8 0x80#8) posted).port .M).staged.data =
        #v[0xFF#8, 0xFF#8, 0xFF#8, 0xFF#8, 0xFF#8, 0xFF#8, 0xFF#8, 0#8, 0#8] := by decide

/-- 8.7: a duty above 1000 is clamped, and the force waits for the boundary. -/
theorem test_force_waits_for_its_boundary :
    ((after (.force .C 0 1#8 1001#16) atBoundary).out .pumpB).applied = 400 ∧
      ((after (.periodBoundary .pumpB) (after (.force .C 0 1#8 1001#16) atBoundary)).out .pumpB).applied = 1000 := by
  decide

/-- The part in DORMANT with so much of its 10 s period left. -/
def sleeping (left : Nat) : State :=
  { asleep with alloc := { asleep.alloc with cycleLength := 10000000, cycleLeft := some left } }

/-- 4.5 and 4.6: a wake completes the 10 s period in progress, one that has just begun too (log 26). -/
theorem test_wake_completes_the_period :
    (after (.nop .C 0) (sleeping 4000000)).alloc.cycleLeft = some 4000000 ∧
      (after .hvReadyRise (sleeping 10000000)).alloc.cycleLeft = some 10000000 := by decide

end Sys2Proof.Tests
end

section
/-!
PROOFS. The Demand Table's POST: what writing a standing demand leaves, that a good frame's arrival does not move the verdict of
R5's checks, and the effect of a POST that passes them (R5 to R10).
-/

namespace Sys2Proof.Machine

/-! ## Writing a demand that stands -/

/-- While a demand stands, the dormant timer is stopped (R78). -/
theorem State.dormantUpkeep_of_stands {s : State} {i : Fin 15} (h : (s.demand i).stands = true) :
    s.dormantUpkeep = { s with regime := { s.regime with dormant := none } } := by
  have notEmpty : ¬ s.tableEmpty = true := fun empty => by simp [s.tableEmpty_iff.mp empty i] at h
  simp [State.dormantUpkeep, notEmpty]

/-- A standing demand written into a slot: its slot, the age list, and the dormant timer stopped (R8, R9, R20, R78). -/
theorem State.writeDemand_of_stands (s : State) (i : Fin 15) {d : Demand} (keep : Bool) (h : d.stands = true) :
    s.writeDemand i d keep =
      { s with
        demands := put s.demands i d
        age := if (s.demand i).stands = true ∧ keep = true then s.age else s.age.erase i ++ [i]
        regime := { s.regime with dormant := none } } := by
  unfold State.writeDemand
  refine State.dormantUpkeep_of_stands (i := i) ?_
  have written : (s.setDemand i d).demand i = d := by rw [State.demand_setDemand, if_pos rfl]
  exact (congrArg Demand.stands written).trans h

/-! ## LOST across a good frame's arrival -/

/-- The flag LOST is bit 0 of the notice set (R167). -/
theorem LinkPort.flag_lost (l : LinkPort) : l.flag .lost = l.flags.getLsbD 0 := by
  have one_bit : ∀ f : NoticeSet, ((f &&& 1#9) != 0#9) = f.getLsbD 0 := by decide
  exact one_bit l.flags

/-- Setting REGIME does not touch LOST. -/
theorem LinkPort.flag_lost_withRegime (l : LinkPort) :
    (l.withFlags (l.flags ||| Notice.regime.mask)).flag .lost = l.flag .lost := by
  simp [LinkPort.flag_lost, Notice.mask]

theorem State.changeRegime_lost (s : State) (r : Regime) (q : Port) :
    ((s.changeRegime r).port q).flag .lost = (s.port q).flag .lost := by
  rw [State.changeRegime_port]
  split
  · rfl
  · exact LinkPort.flag_lost_withRegime _

theorem State.resolve_lost (s : State) (q : Port) : (s.resolve.port q).flag .lost = (s.port q).flag .lost := by
  rcases s.resolve_port_cases q with same | told
  · rw [same]
  · rw [told, LinkPort.flag_lost_withRegime]

theorem State.wake_lost (s : State) (q : Port) : (s.wake.port q).flag .lost = (s.port q).flag .lost := by
  unfold State.wake
  split
  · rw [State.resolve_lost, State.changeRegime_lost]
  · rfl

theorem State.presenceChanged_lost (s : State) (p q : Port) :
    ((s.presenceChanged p).port q).flag .lost = (s.port q).flag .lost := by
  unfold State.presenceChanged State.resolveInRun
  split
  · split
    · exact s.resolve_lost q
    · rfl
  · rfl

/-- A port written with its own flags keeps every flag. -/
theorem State.setPort_flag {s : State} {p : Port} {l : LinkPort} (h : l.flags = (s.port p).flags) (n : Notice) (q : Port) :
    ((s.setPort p l).port q).flag n = (s.port q).flag n := by
  rw [State.port_setPort]
  split
  · next e => rw [e, LinkPort.flag, LinkPort.flag, h]
  · rfl

theorem State.restartLink_lost (s : State) (p q : Port) :
    ((s.restartLink p).port q).flag .lost = (s.port q).flag .lost := by
  unfold State.restartLink
  split
  · rw [State.presenceChanged_lost, State.setPort_flag (by rfl)]
  · rw [State.setPort_flag (by rfl)]

/-- What a good frame does before its command leaves LOST on every port as it is. -/
theorem State.frameArrives_lost (s : State) (p q : Port) (extra : Nat) :
    ((s.frameArrives p extra).port q).flag .lost = (s.port q).flag .lost := by
  rw [State.frameArrives, State.restartLink_lost, State.wake_lost, State.shiftOut, State.setPort_flag (by rfl)]

/-! ## The verdict of R5's checks -/

/-- The checks read RUN, the port's LOST and the table. -/
theorem State.postVerdict_congr {s t : State} {p : Port} (setup : t.setup = s.setup) (demands : t.demands = s.demands)
    (lost : (t.port p).flag .lost = (s.port p).flag .lost) (slot sense tier : Byte) (asked : Word) :
    t.postVerdict p slot sense tier asked = s.postVerdict p slot sense tier asked := by
  have running : t.running = s.running := by rw [State.running, setup, State.running]
  rw [LinkPort.flag_lost, LinkPort.flag_lost] at lost
  simp only [State.postVerdict, running, lost, State.demand_congr demands]

/-- The checks judge a POST after its frame's arrival as they do before it. -/
theorem State.frameArrives_postVerdict (s : State) (p : Port) (extra : Nat) (slot sense tier : Byte) (asked : Word) :
    (s.frameArrives p extra).postVerdict p slot sense tier asked = s.postVerdict p slot sense tier asked :=
  State.postVerdict_congr (by simp) (by simp) (s.frameArrives_lost p p extra) slot sense tier asked

theorem slotOfByte_of_toNat {b : Byte} {k : Fin 4} (h : b.toNat = k.val) : slotOfByte b = some k := by
  simp [slotOfByte, h]

theorem senseOfByte_of_code {b : Byte} {x : Sense} (h : b.toNat = x.code) : senseOfByte b = some x := by
  obtain rfl : b = BitVec.ofNat 8 x.code := by rw [← h, BitVec.ofNat_toNat, BitVec.setWidth_eq]
  cases x <;> rfl

theorem tierOfByte_of_code {b : Byte} {t : Tier} (h : b.toNat = t.code) : tierOfByte b = some t := by
  obtain rfl : b = BitVec.ofNat 8 t.code := by rw [← h, BitVec.ofNat_toNat, BitVec.setWidth_eq]
  cases t <;> rfl

/-- The sense rule fails exactly where another standing slot of the zone has the other sense (R6). -/
theorem State.senseRule_eq_not_any (s : State) (z : Zone) (k : Fin 4) (x : Sense) :
    s.senseRule z k x =
      !([0, 1, 2, 3] : List (Fin 4)).any (fun j =>
        j.val != k.val && (s.demand (postedIx z j)).stands && (s.demand (postedIx z j)).sense != x) := by
  have same (j : Fin 4) : (j.val == k.val) = (j == k) := by simp [Fin.ext_iff]
  simp only [State.senseRule, List.not_any_eq_all_not, bne, same, Bool.not_and, Bool.not_not]

/-- What no check refuses: RUN, LOST acknowledged, the zone's sense and tier, an amount, and the sense rule (R5, R6). -/
theorem State.postVerdict_eq_none {s : State} {p : Port} {k : Fin 4} {x : Sense} {t : Tier} {slot sense tier : Byte}
    {asked : Word} (hslot : slot.toNat = k.val) (hsense : sense.toNat = x.code) (htier : tier.toNat = t.code)
    (h : s.postVerdict p slot sense tier asked = none) :
    s.running = true ∧ (s.port p).flag .lost = false ∧ ¬ (p = .M ∧ x ≠ .cool) ∧ ¬ (p ≠ .B ∧ t = .charge) ∧
      asked ≠ 0#16 ∧ s.senseRule (portZone p) k x = true := by
  have named : (if x.code = 0 then Sense.cool else Sense.heat) = x := by cases x <;> rfl
  have heats : x.code = 1 ↔ x ≠ .cool := by cases x <;> decide
  have charges : t.code = 1 ↔ t = .charge := by cases t <;> decide
  have nothing : asked.toNat = 0 ↔ asked = 0#16 := BitVec.toNat_eq (y := 0#16) |>.symm
  unfold State.postVerdict at h
  simp only [hslot, hsense, htier, named, heats, charges, nothing] at h
  split_ifs at h with run lost _ _ motor charge none_asked conflict
  refine ⟨by simpa using run, by simpa [LinkPort.flag_lost] using lost, motor, charge, none_asked, ?_⟩
  rw [State.senseRule_eq_not_any, Bool.eq_false_iff.mpr conflict, Bool.not_false]

/-! ## The demand that a taken POST writes -/

theorem seconds_eq (n : Nat) : seconds n = 1000000 * n := Nat.mul_comm n 1000000

/-- The reply's lease of a demand just posted is its whole length (R10, R13). -/
theorem ceilSeconds_seconds {n : Nat} (h : 1 ≤ n) : ceilSeconds (some (seconds n)) = n := by
  simp only [ceilSeconds, seconds]
  omega

theorem clampNat_bounds {lo hi : Nat} (h : lo ≤ hi) (n : Nat) : lo ≤ clampNat lo hi n ∧ clampNat lo hi n ≤ hi := by
  simp only [clampNat]
  omega

theorem postedDemand_stands (x : Sense) (t : Tier) (weight : Byte) (asked : Word) (lease : Byte) :
    (postedDemand x t weight asked lease).stands = true := rfl

/-- With no starve credit the effective weight is the weight (R4). -/
theorem postedDemand_effectiveWeight (x : Sense) (t : Tier) (weight : Byte) (asked : Word) (lease : Byte) :
    (postedDemand x t weight asked lease).effectiveWeight = clampNat 1 15 weight.toNat :=
  Nat.min_eq_right (clampNat_bounds (by decide) _).2

/-- The record of a demand just posted (R10, R167). -/
theorem postedDemand_record (x : Sense) (t : Tier) (weight : Byte) (asked : Word) (lease : Byte) :
    (postedDemand x t weight asked lease).record =
      u8 1 ++ u8 x.code ++ u8 t.code ++ u8 (clampNat 1 15 weight.toNat) ++ u16 (clampNat 0 480 asked.toNat) ++ u16 0 ++
        u8 (clampNat 1 60 lease.toNat) := by
  have left : ceilSeconds (postedDemand x t weight asked lease).lease = clampNat 1 60 lease.toNat :=
    ceilSeconds_seconds (clampNat_bounds (by decide) _).1
  rw [Demand.record, left, postedDemand_effectiveWeight]
  rfl

/-- The status of a taken POST is CLAMPED where an argument was changed (R7). -/
theorem post_status (weight : Byte) (asked : Word) (lease : Byte) :
    (if postClamped weight asked lease then Status.clamped else .ok) =
      if clampNat 1 15 weight.toNat = weight.toNat ∧ clampNat 0 480 asked.toNat = asked.toNat ∧
          clampNat 1 60 lease.toNat = lease.toNat then .ok
      else .clamped := by
  by_cases unchanged : clampNat 1 15 weight.toNat = weight.toNat ∧ clampNat 0 480 asked.toNat = asked.toNat ∧
      clampNat 1 60 lease.toNat = lease.toNat
  · simp [postClamped, unchanged]
  · rw [if_neg unchanged, if_pos]
    simpa [postClamped, imp_iff_not_or, or_assoc] using unchanged

/-! ## A POST that is taken -/

/-- Past the sense rule a POST writes its slot and answers with the record it wrote (R8, R9, R10). -/
theorem State.takePost_of_senseRule {s : State} {p : Port} {k : Fin 4} {x : Sense} (t : Tier) (weight : Byte)
    (asked : Word) (lease : Byte) (h : s.senseRule (portZone p) k x = true) :
    s.takePost p k x t weight asked lease =
      ⟨s.writeDemand (postedIx (portZone p) k) (postedDemand x t weight asked lease)
          ((s.demand (postedIx (portZone p) k)).tier == t),
        if postClamped weight asked lease then .clamped else .ok, (postedDemand x t weight asked lease).record⟩ := by
  simp only [State.takePost, h, if_true, State.writeDemand_demand]

/-- A POST that no check refuses is taken. -/
theorem postCommand_of_verdict_none {s : State} {p : Port} {k : Fin 4} {x : Sense} {t : Tier} {slot sense tier : Byte}
    {asked : Word} (weight lease : Byte) (hslot : slot.toNat = k.val) (hsense : sense.toNat = x.code)
    (htier : tier.toNat = t.code) (h : s.postVerdict p slot sense tier asked = none) :
    postCommand p slot sense tier weight asked lease s =
      ⟨s.writeDemand (postedIx (portZone p) k) (postedDemand x t weight asked lease)
          ((s.demand (postedIx (portZone p) k)).tier == t),
        if postClamped weight asked lease then .clamped else .ok, (postedDemand x t weight asked lease).record⟩ := by
  obtain ⟨run, lost, motor, charge, some_asked, rule⟩ := State.postVerdict_eq_none hslot hsense htier h
  rw [← State.takePost_of_senseRule t weight asked lease rule]
  simp only [postCommand, run, lost, slotOfByte_of_toNat hslot, senseOfByte_of_code hsense, tierOfByte_of_code htier,
    if_neg motor, if_neg charge, if_neg some_asked, Bool.true_eq_false, Bool.false_eq_true, if_false]

theorem exec_post (p : Port) (extra : Nat) (slot sense tier weight lease : Byte) (asked : Word) (s : State) :
    exec (.post p extra slot sense tier weight asked lease) s =
      .next (goodFrame p extra 0x02#8 (postCommand p slot sense tier weight asked lease) s) := rfl

/-- Settles O9: the checks judge the state after the frame's arrival as they judge the one before it, so the POST is taken there;
the demand it writes stands, which stops the dormant timer, and a POST that is taken asks for something. -/
theorem postTakenWritesItsSlot : Obligations.PostTakenWritesItsSlot := by
  intro p extra slot sense tier slotByte senseByte tierByte weight lease asked s hslot hsense htier h
  constructor
  · obtain ⟨-, -, -, -, some_asked, -⟩ := State.postVerdict_eq_none hslot hsense htier h
    have asked_ne : asked.toNat ≠ 0 := fun e => some_asked (BitVec.eq_of_toNat_eq e)
    omega
  · have demands : (s.frameArrives p extra).demands = s.demands := by simp
    have age : (s.frameArrives p extra).age = s.age := by simp
    rw [← s.frameArrives_postVerdict p extra] at h
    rw [exec_post, goodFrame, postCommand_of_verdict_none weight lease hslot hsense htier h,
      State.writeDemand_of_stands _ _ _ (postedDemand_stands ..), postedDemand_record, post_status]
    simp only [State.demand_congr demands, age, beq_iff_eq, postedDemand, seconds_eq, clampNat, Nat.zero_max]

end Sys2Proof.Machine
end

section
/-!
PROOFS. The pools of a cycle (R28 to R32): what sharing one pool conserves, what a resource's turn leaves of the other amounts,
and so that the compressor draws no more than the allowance, which the PTC pool's formula needs.
-/

namespace Sys2Proof.Machine

/-! ## Sharing conserves the pool -/

/-- What a part of a pool's sharing may do to the pool's rest and the claims: the claims stay in place, and what leaves the pool
is what they get. Age lists deal by slot, so a slot must not have two claims. -/
structure SharedFrom (before after : Nat × List Claim) : Prop where
  ix : after.2.map Claim.ix = before.2.map Claim.ix
  total : (before.2.map Claim.ix).Nodup →
    after.1 + (after.2.map Claim.got).sum = before.1 + (before.2.map Claim.got).sum

theorem SharedFrom.refl (r : Nat × List Claim) : SharedFrom r r := ⟨rfl, fun _ => rfl⟩

theorem SharedFrom.trans {p q r : Nat × List Claim} (h : SharedFrom p q) (k : SharedFrom q r) : SharedFrom p r :=
  ⟨k.ix.trans h.ix, fun once => (k.total (h.ix ▸ once)).trans (h.total once)⟩

@[simp] theorem Claim.take_ix (c : Claim) (g : Nat) : (c.take g).ix = c.ix := rfl

@[simp] theorem Claim.take_got (c : Claim) (g : Nat) : (c.take g).got = c.got + g := rfl

/-- Granting to some of the claims leaves every claim its slot. -/
theorem ix_map_take (p : Claim → Bool) (g : Claim → Nat) (cs : List Claim) :
    (cs.map (fun c => if p c then c.take (g c) else c)).map Claim.ix = cs.map Claim.ix := by
  rw [List.map_map]
  refine List.map_congr_left fun c _ => ?_
  rw [Function.comp_apply, apply_ite Claim.ix, Claim.take_ix, ite_self]

/-- Granting to some of the claims adds what each of them is given. -/
theorem got_map_take (p : Claim → Bool) (g : Claim → Nat) (cs : List Claim) :
    ((cs.map (fun c => if p c then c.take (g c) else c)).map Claim.got).sum =
      (cs.map Claim.got).sum + ((cs.filter p).map g).sum := by
  induction cs with
  | nil => rfl
  | cons c cs ih =>
    cases given : p c with
    | false =>
      simp only [List.map_cons, List.sum_cons, given, List.filter_cons, Bool.false_eq_true, if_false, ih]
      omega
    | true =>
      simp only [List.map_cons, List.sum_cons, given, List.filter_cons, if_true, ih, Claim.take_got]
      omega

/-- Rounded-down parts of P in proportion to weights, times the weight sum, are at most P times those weights. -/
theorem sum_parts_mul_le (pool total : Nat) (cs : List Claim) :
    (cs.map (fun c => pool * c.weight / total)).sum * total ≤ pool * (cs.map Claim.weight).sum := by
  induction cs with
  | nil => simp
  | cons c cs ih =>
    have head := Nat.div_mul_le_self (pool * c.weight) total
    simp only [List.map_cons, List.sum_cons, Nat.add_mul, Nat.mul_add]
    omega

/-- The shares of one pass fit in the pool (R33). -/
theorem shareSum_le (t : Tier) (pool : Nat) (cs : List Claim) : shareSum t pool cs ≤ pool := by
  set members := cs.filter (fun c => c.inTier t)
  have parts : shareSum t pool cs ≤ (members.map (fun c => pool * c.weight / weightSum t cs)).sum :=
    List.sum_le_sum fun c _ => Nat.min_le_right ..
  refine parts.trans ?_
  obtain none | some := Nat.eq_zero_or_pos (weightSum t cs)
  · simp [none]
  · exact Nat.le_of_mul_le_mul_right (sum_parts_mul_le pool (weightSum t cs) members) some

/-- A pass that grants every share (R33, step 3). -/
theorem grantShares_sharedFrom (t : Tier) (pool : Nat) (cs : List Claim) :
    SharedFrom (pool, cs) (pool - shareSum t pool cs, grantShares t pool cs) where
  ix := ix_map_take (fun c => c.inTier t) (fun c => c.share pool (weightSum t cs)) cs
  total _ := by
    have fits := shareSum_le t pool cs
    have got : ((grantShares t pool cs).map Claim.got).sum = (cs.map Claim.got).sum + shareSum t pool cs :=
      got_map_take (fun c => c.inTier t) _ cs
    simp only [got]
    omega

/-- Of claims with a slot each, at most one is of the slot i. -/
theorem filter_ix_length_le_one {i : Fin 15} {p : Claim → Bool} {cs : List Claim} (once : (cs.map Claim.ix).Nodup)
    (slot : ∀ c, p c = true → c.ix = i) : (cs.filter p).length ≤ 1 := by
  have count : (cs.map Claim.ix).count i ≤ 1 := List.nodup_iff_count_le_one.mp once i
  rw [List.count, List.countP_map] at count
  rw [← List.countP_eq_length_filter]
  exact (List.countP_mono_left fun c _ h => by simpa using slot c h).trans count

/-- One hu dealt to the slot i, which still wants some (R34). -/
theorem dealOne_sharedFrom {t : Tier} {i : Fin 15} {pool : Nat} {cs : List Claim} (left : pool ≠ 0)
    (wants : cs.any (fun c => decide (c.ix = i) && c.inTier t) = true) :
    SharedFrom (pool, cs) (pool - 1, dealOne t i cs) := by
  set p : Claim → Bool := fun c => decide (c.ix = i) && c.inTier t
  have dealt : dealOne t i cs = cs.map (fun c => if p c then c.take 1 else c) := by simp [dealOne, p]
  rw [dealt]
  refine ⟨ix_map_take p (fun _ => 1) cs, fun once => ?_⟩
  have atMost : (cs.filter p).length ≤ 1 :=
    filter_ix_length_le_one once fun c h => of_decide_eq_true (Bool.and_eq_true_iff.mp h).1
  have atLeast : 0 < (cs.filter p).length := by
    rw [← List.countP_eq_length_filter, List.countP_pos_iff]
    simpa using wants
  have got := got_map_take p (fun _ => 1) cs
  simp only [List.map_const', List.sum_replicate, smul_eq_mul, mul_one] at got
  simp only [got]
  omega

/-- The remainder dealt along an age list (R34). -/
theorem deal_sharedFrom (t : Tier) (age : List (Fin 15)) (pool : Nat) (cs : List Claim) :
    SharedFrom (pool, cs) (deal t age pool cs) := by
  induction age generalizing pool cs with
  | nil => exact .refl _
  | cons i rest ih =>
    unfold deal
    split_ifs with spent wants
    · exact .refl _
    · exact (dealOne_sharedFrom spent wants).trans (ih ..)
    · exact ih ..

/-- The passes of one tier (R33). -/
theorem tierPasses_sharedFrom (t : Tier) (age : List (Fin 15)) (fuel pool : Nat) (cs : List Claim) :
    SharedFrom (pool, cs) (tierPasses t age fuel pool cs) := by
  induction fuel generalizing pool cs with
  | zero => exact .refl _
  | succ fuel ih =>
    unfold tierPasses
    split_ifs with finished shares
    · exact .refl _
    · exact (grantShares_sharedFrom t pool cs).trans (ih ..)
    · exact (deal_sharedFrom t age pool cs).trans (ih ..)

theorem shareTier_sharedFrom (t : Tier) (age : List (Fin 15)) (r : Nat × List Claim) :
    SharedFrom r (shareTier t age r) :=
  tierPasses_sharedFrom t age r.1 r.1 r.2

theorem sharePool_sharedFrom (age : List (Fin 15)) (pool : Nat) (cs : List Claim) :
    SharedFrom (pool, cs) (sharePool age pool cs) :=
  (((shareTier_sharedFrom .protect age _).trans (shareTier_sharedFrom .charge age _)).trans
    (shareTier_sharedFrom .drive age _)).trans (shareTier_sharedFrom .comfort age _)

/-! ## One resource's turn -/

section
variable (age : List (Fin 15)) (pool : Nat) (serves : Claimant → Bool) {record : Claimant → Nat → Claimant}
  (es : List Claimant)

/-- The claims that a resource's turn shares its pool among. -/
def claimsOf : List Claim := es.map (fun e => e.claim (serves e))

theorem runStage_eq :
    runStage age pool serves record es =
      List.zipWith (fun e c => if serves e then record e c.got else e) es
        (sharePool age pool (claimsOf serves es)).2 := rfl

theorem claimsOf_ix : (claimsOf serves es).map Claim.ix = es.map Claimant.ix := by
  simp [claimsOf, Claimant.claim]

theorem claimsOf_got : ((claimsOf serves es).map Claim.got).sum = 0 := by
  rw [claimsOf, List.map_map]
  change (es.map fun _ => 0).sum = 0
  simp

theorem sharePool_claimsOf_length : (sharePool age pool (claimsOf serves es)).2.length = es.length := by
  simpa [claimsOf] using congrArg List.length (sharePool_sharedFrom age pool (claimsOf serves es)).ix

/-- A resource grants its demands no more than its pool (R35). -/
theorem sharePool_claimsOf_got_le (once : (es.map Claimant.ix).Nodup) :
    ((sharePool age pool (claimsOf serves es)).2.map Claim.got).sum ≤ pool := by
  have total := (sharePool_sharedFrom age pool (claimsOf serves es)).total (by rwa [claimsOf_ix])
  simp only [claimsOf_got] at total
  omega

/-- What a resource's record does not write stands as before its turn. -/
theorem runStage_map_eq {β : Type} {f : Claimant → β} (keeps : ∀ e g, f (record e g) = f e) :
    (runStage age pool serves record es).map f = es.map f := by
  have length := sharePool_claimsOf_length age pool serves es
  have same (e : Claimant) (g : Nat) : f (if serves e then record e g else e) = f e := by
    rw [apply_ite f, keeps, ite_self]
  rw [runStage_eq]
  refine List.ext_getElem ?_ fun i _ _ => ?_
  · simp [length]
  · simp [same]

/-- The records of claims add no more to an amount than the claims got. -/
theorem sumOf_zipWith_record_le {f : Claimant → Nat} (adds : ∀ e g, f (record e g) ≤ f e + g) (cs : List Claim) :
    sumOf f (List.zipWith (fun e c => if serves e then record e c.got else e) es cs) ≤
      sumOf f es + (cs.map Claim.got).sum := by
  induction es generalizing cs with
  | nil => simp [sumOf]
  | cons e es ih =>
    cases cs with
    | nil => simp [sumOf]
    | cons c cs =>
      have rest := ih cs
      have first : f (if serves e then record e c.got else e) ≤ f e + c.got := by
        split
        · exact adds e c.got
        · exact Nat.le_add_right ..
      simp only [sumOf, List.zipWith_cons_cons, List.map_cons, List.sum_cons] at rest ⊢
      omega

/-- A resource's turn adds at most its pool to the amount it records (R35). -/
theorem sumOf_runStage_le {f : Claimant → Nat} (once : (es.map Claimant.ix).Nodup)
    (adds : ∀ e g, f (record e g) ≤ f e + g) :
    sumOf f (runStage age pool serves record es) ≤ sumOf f es + pool :=
  (sumOf_zipWith_record_le serves es adds _).trans
    (Nat.add_le_add_left (sharePool_claimsOf_got_le age pool serves es once) _)

end

/-! ## The turns before PTC -/

theorem allSlots_nodup : allSlots.Nodup := by decide

theorem State.claimants_ix (s : State) : s.claimants.map Claimant.ix = allSlots.filter (fun i => (s.demand i).stands) := by
  rw [State.claimants, List.map_map]
  exact List.map_id _

theorem State.claimants_comp (s : State) : sumOf Claimant.comp s.claimants = 0 := by
  rw [sumOf, State.claimants, List.map_map]
  change ((allSlots.filter _).map fun _ => 0).sum = 0
  simp

/-- The turns of SCAV, its credit and RAD write nothing but SCAV and RAD grants. -/
theorem State.afterRad_map_eq (s : State) {β : Type} {f : Claimant → β} (scav : ∀ e g, f (Claimant.withScav e g) = f e)
    (rad : ∀ e g, f (Claimant.withRad e g) = f e) : s.afterRad.map f = s.claimants.map f :=
  calc s.afterRad.map f
    _ = s.afterCredit.map f := runStage_map_eq _ _ _ _ rad
    _ = s.afterScav.map f := runStage_map_eq _ _ _ _ scav
    _ = s.claimants.map f := runStage_map_eq _ _ _ _ scav

/-- COMP's grants, before the compressor minimum, fit in its pool (R39). -/
theorem State.compShared_le (s : State) : s.compShared ≤ s.compPool s.allowanceValue := by
  have once : (s.afterRad.map Claimant.ix).Nodup := by
    rw [s.afterRad_map_eq (fun _ _ => rfl) (fun _ _ => rfl), State.claimants_ix]
    exact allSlots_nodup.filter _
  have before : sumOf Claimant.comp s.afterRad = 0 := by
    rw [sumOf, s.afterRad_map_eq (fun _ _ => rfl) (fun _ _ => rfl), ← sumOf, State.claimants_comp]
  have added := sumOf_runStage_le s.age (s.compPool s.allowanceValue) compServes s.afterRad once
    (f := Claimant.comp) (record := Claimant.withComp) fun e g => Nat.le_add_left g e.comp
  rwa [before, Nat.zero_add] at added

/-- The compressor minimum only takes away (R40). -/
theorem State.compGranted_le_compShared (s : State) : s.compGranted ≤ s.compShared := by
  unfold State.compGranted
  split <;> omega

/-! ## The compressor's draw -/

/-- Heat that an allowance can drive draws no more than the allowance (R31, R42). -/
theorem compDrawOf_le {gcomp allowance cop : Nat} (h : gcomp ≤ allowance * cop / 8) :
    compDrawOf gcomp cop ≤ allowance := by
  obtain rfl | running := Nat.eq_zero_or_pos cop
  · simp [compDrawOf]
  · have heat : gcomp * 8 ≤ allowance * cop := (Nat.le_div_iff_mul_le (by decide)).mp h
    refine Nat.le_of_lt_succ ((Nat.div_lt_iff_lt_mul running).mpr ?_)
    rw [Nat.succ_mul]
    omega

/-- The compressor draws no more than the allowance (R42). -/
theorem State.compDraw_le_allowance (s : State) : s.compDraw ≤ s.allowanceValue :=
  compDrawOf_le ((s.compGranted_le_compShared.trans s.compShared_le).trans (Nat.min_le_right ..))

theorem compDrawOf_cast (gcomp cop : Nat) : (compDrawOf gcomp cop : Int) = ((gcomp : Int) * 8 + cop - 1).tdiv cop := by
  obtain rfl | running := Nat.eq_zero_or_pos cop
  · simp [compDrawOf]
  · rw [compDrawOf, Int.ofNat_tdiv, Nat.cast_sub (by omega)]
    push_cast
    rfl

/-! ## The pools as the manual writes them -/

theorem heatOf_cast (k : Nat) (dT : Int) : (heatOf k dT : Int) = ((k : Int) * max 0 dT).tdiv 100 := by
  rw [heatOf, Int.ofNat_tdiv, Nat.cast_mul, Int.ofNat_toNat, max_comm]
  rfl

/-- R28. -/
theorem State.scavPool_cast (s : State) (a : Availability) :
    (s.scavPool a : Int) =
      if a.scav && s.usable .tmOut && s.usable .tbOut then
        min (s.num .scavMax : Int) ((s.num .scavK * max 0 (s.tempValue .tmOut - s.tempValue .tbOut)).tdiv 100)
      else 0 := by
  rw [State.scavPool, Nat.cast_ite, Nat.cast_min, heatOf_cast, Nat.cast_zero]

/-- R29. -/
theorem State.radPool_cast (s : State) (a : Availability) :
    (s.radPool a : Int) =
      if a.radB then
        (if s.usable .tmOut && s.usable .tbOut && s.usable .ta then
          min (s.num .radMax : Int)
            ((s.num .radK * max 0 (max (s.tempValue .tmOut) (s.tempValue .tbOut) - s.tempValue .ta)).tdiv 100)
        else 0)
      else if a.radM then
        (if s.usable .tmOut && s.usable .ta then
          min (s.num .radMax : Int) ((s.num .radK * max 0 (s.tempValue .tmOut - s.tempValue .ta)).tdiv 100)
        else 0)
      else 0 := by
  simp only [State.radPool, Nat.cast_ite, Nat.cast_min, heatOf_cast, Nat.cast_zero]

/-- R30: in the derated case TR lies between TR_DERATE and TR_CUTOFF, so both differences are above 0. -/
theorem State.compAvail_cast (s : State) :
    (s.compAvail : Int) =
      if s.usable .tr = false then 0
      else if s.int .trCutoff ≤ s.tempValue .tr then 0
      else if s.tempValue .tr ≤ s.int .trDerate then (s.num .compMax : Int)
      else (s.num .compMax * (s.int .trCutoff - s.tempValue .tr)).tdiv (s.int .trCutoff - s.int .trDerate) := by
  unfold State.compAvail
  split_ifs with unusable cut full
  · rfl
  · rfl
  · rfl
  · rw [Int.ofNat_tdiv, Nat.cast_mul, Int.toNat_of_nonneg (by omega), Int.toNat_of_nonneg (by omega)]

/-- R31. -/
theorem State.compPool_cast (s : State) (allowance : Nat) :
    (s.compPool allowance : Int) = min (s.compAvail : Int) (((allowance : Int) * s.num .cop).tdiv 8) := by
  rw [State.compPool, Nat.cast_min, Int.ofNat_tdiv, Nat.cast_mul]
  rfl

/-- R32, where the draw is within the allowance. -/
theorem State.ptcPool_cast (s : State) {allowance draw : Nat} (h : draw ≤ allowance) :
    (s.ptcPool allowance draw : Int) = min (s.num .ptcMax : Int) ((allowance : Int) - draw) := by
  rw [State.ptcPool, Nat.cast_min, Nat.cast_sub h]

/-- Settles O15: each pool is its formula cast to the integers; for PTC the compressor's draw is within the allowance. -/
theorem poolsFollowTheirFormulas : Obligations.PoolsFollowTheirFormulas := by
  intro s
  refine ⟨s.scavPool_cast _, s.radPool_cast _, ?_, s.ptcPool_cast s.compDraw_le_allowance, compDrawOf_cast .., rfl⟩
  exact (s.compPool_cast _).trans (congrArg (min · _) s.compAvail_cast)

end Sys2Proof.Machine
end

section
/-!
PROOFS. Mode selection: the battery's selection sense (R56) and the candidate mode it leads to (R58).
-/

namespace Sys2Proof.Machine

/-! ## The battery's selection sense -/

/-- The four posted slots of a zone (R2). -/
theorem mem_postedSlots {z : Zone} {i : Fin 15} : i ∈ postedSlots z ↔ ∃ k, i = postedIx z k := by
  simp [postedSlots, postedIx, Fin.exists_fin_succ]

/-- The posted demand found first speaks for all of its zone, since they share one sense (R6). -/
theorem State.DemandsOk.find_posted_sense {s : State} (ok : s.DemandsOk) (z : Zone) (x : Sense) :
    ((postedSlots z).find? (fun i => (s.demand i).stands)).map (fun i => (s.demand i).sense) = some x ↔
      ∃ k, (s.demand (postedIx z k)).stands = true ∧ (s.demand (postedIx z k)).sense = x := by
  have of_found {i : Fin 15} (found : (postedSlots z).find? (fun i => (s.demand i).stands) = some i) :
      ∃ k, i = postedIx z k ∧ (s.demand i).stands = true := by
    obtain ⟨k, posted⟩ := mem_postedSlots.mp (List.mem_of_find?_eq_some found)
    exact ⟨k, posted, by simpa using List.find?_some found⟩
  rw [Option.map_eq_some_iff]
  constructor
  · rintro ⟨i, found, sense⟩
    obtain ⟨k, rfl, stands⟩ := of_found found
    exact ⟨k, stands, sense⟩
  · rintro ⟨k, stands, sense⟩
    have some_found : ((postedSlots z).find? fun i => (s.demand i).stands).isSome :=
      List.find?_isSome.mpr ⟨postedIx z k, mem_postedSlots.mpr ⟨k, rfl⟩, stands⟩
    obtain ⟨i, found⟩ := Option.isSome_iff_exists.mp some_found
    obtain ⟨j, rfl, first⟩ := of_found found
    exact ⟨_, found, (ok.oneSense z j k first stands).trans sense⟩

/-- R56: B/G decides while it stands, else the posted battery demands. -/
theorem State.DemandsOk.selectionSense_eq_some {s : State} (ok : s.DemandsOk) (x : Sense) :
    s.selectionSense = some x ↔
      if (s.demand (gIx .battery)).stands = true then (s.demand (gIx .battery)).sense = x
      else ∃ k, (s.demand (postedIx .battery k)).stands = true ∧ (s.demand (postedIx .battery k)).sense = x := by
  unfold State.selectionSense
  split_ifs with synthetic
  · exact Option.some_inj
  · rw [← ok.find_posted_sense .battery x]
    cases (postedSlots .battery).find? fun i => (s.demand i).stands <;> rfl

/-! ## The candidate mode -/

theorem State.protectMotorCool_iff (s : State) :
    s.protectMotorCool = true ↔
      ∃ i, (s.demand i).stands = true ∧ zoneOfIx i = .motor ∧ (s.demand i).sense = .cool ∧
        (s.demand i).tier = .protect := by
  simp [State.protectMotorCool, and_assoc]

theorem State.seriesWanted_iff (s : State) :
    s.seriesWanted = true ↔
      s.selectionSense = some .cool ∧ s.usable .tbOut = true ∧ s.usable .ta = true ∧ s.usable .tmOut = true ∧
        s.tempValue .ta + s.num .seriesMargin ≤ s.tempValue .tbOut ∧
        s.tempValue .tmOut ≤ s.tempValue .tbOut + s.num .seriesSpread := by
  simp [State.seriesWanted, and_assoc]

theorem State.scavengeWanted_iff (s : State) :
    s.scavengeWanted = true ↔
      s.selectionSense = some .heat ∧ s.usable .tmOut = true ∧ s.usable .tbOut = true ∧
        s.tempValue .tbOut + s.num .scavMargin ≤ s.tempValue .tmOut ∧ 0 < s.num .scavK ∧
        ¬ s.protectMotorCool = true := by
  simp [State.scavengeWanted, and_assoc]

theorem State.candidate_eq_series (s : State) : s.candidate = .series ↔ s.seriesWanted = true := by
  unfold State.candidate
  split_ifs with series scavenge <;> simp [series]

/-- SERIES wants COOL and SCAVENGE wants HEAT, so coming second costs SCAVENGE nothing. -/
theorem State.candidate_eq_scavenge (s : State) : s.candidate = .scavenge ↔ s.scavengeWanted = true := by
  have apart : s.seriesWanted = true → ¬ s.scavengeWanted = true := by
    rw [s.seriesWanted_iff, s.scavengeWanted_iff]
    rintro ⟨cool, _⟩ ⟨heat, _⟩
    simp [cool] at heat
  unfold State.candidate
  split_ifs with series scavenge
  · simp [apart series]
  · simp [scavenge]
  · simp [scavenge]

/-- Settles O25: SERIES and SCAVENGE are the candidate exactly when wanted, and the sense they want is that of R56. -/
theorem candidateModeFollowsTheBattery : Obligations.CandidateModeFollowsTheBattery := by
  intro s tm tb ta stands g wants protectsMotor ok
  constructor
  · rw [s.candidate_eq_series, s.seriesWanted_iff, ok.selectionSense_eq_some]
  · rw [s.candidate_eq_scavenge, s.scavengeWanted_iff, ok.selectionSense_eq_some, s.protectMotorCool_iff]

end Sys2Proof.Machine
end

section
/-!
PROOFS. A conversion: the filter's step (R93), the linear map between the conversion points (R91, R92), when the conversion table
is ready (R90), and what a conversion makes of its channel and of a zone's conditions (R89, R94 to R98, R117 to R120).
-/

namespace Sys2Proof.Machine

/-! ## The filter -/

/-- The filter moves toward the reading by the nearest fraction of the distance (R93). -/
theorem filterValue_eq (k : Nat) (filtered reading : Int) :
    filterValue k filtered reading =
      if k = 0 then reading
      else filtered + (reading - filtered).sign * (((reading - filtered).natAbs + 2 ^ (k - 1)) / 2 ^ k : Nat) := by
  unfold filterValue
  split_ifs with unfiltered rising
  · rfl
  · rcases rising.lt_or_eq with above | equal
    · rw [Int.sign_eq_one_of_pos (Int.sub_pos_of_lt above), one_mul]
    · have noStep : 2 ^ (k - 1) / 2 ^ k = 0 :=
        Nat.div_eq_of_lt (Nat.pow_lt_pow_right (by decide) (by omega))
      simp [equal, noStep]
  · rw [Int.sign_eq_neg_one_of_neg (by omega), neg_one_mul, Int.sub_eq_add_neg]

/-! ## The map from codes to readings -/

section
variable {c : Int} {pts : List (Int × Int)} {i : Nat} {p q : Int × Int}

/-- Segments that end at or below a code do not matter to its reading. -/
theorem interpolate_drop (sorted : (pts.map Prod.fst).Pairwise (· < ·)) (first : pts[i]? = some p) (le : p.1 ≤ c) :
    interpolate c (pts.drop i) = interpolate c pts := by
  induction i generalizing pts with
  | zero => rfl
  | succ i ih =>
    match pts with
    | [] => simp at first
    | [_] => simp at first
    | a :: b :: rest =>
      have sortedTail := (List.pairwise_cons.mp sorted).2
      have firstOfTail : (b :: rest)[i]? = some p := first
      have second_le : b.1 ≤ c := by
        rcases List.mem_cons.mp (List.mem_of_getElem? firstOfTail) with here | later
        · exact here ▸ le
        · exact ((List.pairwise_cons.mp sortedTail).1 _ (List.mem_map_of_mem later)).le.trans le
      rw [List.drop_succ_cons, ih sortedTail firstOfTail, interpolate, if_pos second_le]

/-- The reading of a code in the segment from one point to the next (R91). -/
theorem interpolate_segment (sorted : (pts.map Prod.fst).Pairwise (· < ·)) (first : pts[i]? = some p)
    (second : pts[i + 1]? = some q) (le : p.1 ≤ c) (lt : c < q.1) :
    interpolate c pts = p.2 + ((q.2 - p.2) * (c - p.1)).tdiv (q.1 - p.1) := by
  rw [← interpolate_drop sorted first le]
  obtain ⟨inside, rfl⟩ := List.getElem?_eq_some_iff.mp first
  obtain ⟨insideToo, rfl⟩ := List.getElem?_eq_some_iff.mp second
  rw [List.drop_eq_getElem_cons inside, List.drop_eq_getElem_cons insideToo, interpolate, if_neg (not_le.mpr lt)]

/-- The reading of a code at or above the last point is that point's. -/
theorem interpolate_last (sorted : (pts.map Prod.fst).Pairwise (· < ·)) (first : pts[i]? = some p)
    (last : pts[i + 1]? = none) (le : p.1 ≤ c) : interpolate c pts = p.2 := by
  rw [← interpolate_drop sorted first le]
  obtain ⟨inside, rfl⟩ := List.getElem?_eq_some_iff.mp first
  rw [List.drop_eq_getElem_cons inside, List.drop_eq_nil_of_le (List.getElem?_eq_none_iff.mp last), interpolate]

end

/-! ## The conversion table -/

theorem ascending_iff : ∀ l : List Int, ascending l = true ↔ l.Pairwise (· < ·)
  | [] => by simp [ascending]
  | [_] => by simp [ascending]
  | a :: b :: rest => by
    rw [ascending, Bool.and_eq_true, decide_eq_true_iff, ascending_iff (b :: rest), ← List.isChain_iff_pairwise,
      ← List.isChain_iff_pairwise, List.isChain_cons_cons]

theorem descending_iff : ∀ l : List Int, descending l = true ↔ l.Pairwise (· > ·)
  | [] => by simp [descending]
  | [_] => by simp [descending]
  | a :: b :: rest => by
    rw [descending, Bool.and_eq_true, decide_eq_true_iff, descending_iff (b :: rest), ← List.isChain_iff_pairwise,
      ← List.isChain_iff_pairwise, List.isChain_cons_cons]

section
variable (s : State)

theorem State.convPoints_eq_ofFn :
    s.convPoints = List.ofFn fun i : Fin 8 => ((s.param (.convPt i)).value, (s.param (.convPt i)).second) := rfl

theorem State.convPoints_getElem? (i : Fin 8) :
    s.convPoints[i.val]? = some ((s.param (.convPt i)).value, (s.param (.convPt i)).second) := by
  rw [s.convPoints_eq_ofFn, List.getElem?_ofFn, dif_pos i.isLt]

theorem State.convPoints_codes_pairwise :
    (s.convPoints.map Prod.fst).Pairwise (· < ·) ↔
      ∀ i j : Fin 8, i < j → (s.param (.convPt i)).value < (s.param (.convPt j)).value := by
  rw [s.convPoints_eq_ofFn, List.map_ofFn, List.pairwise_ofFn]
  rfl

theorem State.convPoints_temperatures_pairwise (R : Int → Int → Prop) :
    (s.convPoints.map Prod.snd).Pairwise R ↔
      ∀ i j : Fin 8, i < j → R (s.param (.convPt i)).second (s.param (.convPt j)).second := by
  rw [s.convPoints_eq_ofFn, List.map_ofFn, List.pairwise_ofFn]
  rfl

/-- The table is ready with all points written, the codes rising, and the temperatures rising or falling (R90). -/
theorem State.tableReady_iff :
    s.tableReady = true ↔
      (∀ i, (s.param (.convPt i)).written = true) ∧
      (∀ i j : Fin 8, i < j → (s.param (.convPt i)).value < (s.param (.convPt j)).value) ∧
      ((∀ i j : Fin 8, i < j → (s.param (.convPt i)).second < (s.param (.convPt j)).second) ∨
        ∀ i j : Fin 8, i < j → (s.param (.convPt j)).second < (s.param (.convPt i)).second) := by
  have allWritten :
      (([0, 1, 2, 3, 4, 5, 6, 7] : List (Fin 8)).all fun i => (s.param (.convPt i)).written) = true ↔
        ∀ i, (s.param (.convPt i)).written = true := by
    simp [Fin.forall_fin_succ]
  rw [State.tableReady, orderTest, Bool.and_eq_true, Bool.and_eq_true, Bool.or_eq_true, allWritten, ascending_iff,
    ascending_iff, descending_iff, s.convPoints_codes_pairwise, s.convPoints_temperatures_pairwise,
    s.convPoints_temperatures_pairwise]

/-- Clamped to the table's ends outside it, the interpolation between them (R91, R92). -/
theorem State.mapCode_convPoints (c : Int) :
    mapCode s.convPoints c =
      if c < (s.param (.convPt 0)).value then
        ((s.param (.convPt 0)).second,
          if (s.param (.convPt 0)).second < (s.param (.convPt 7)).second then .clampedLow else .clampedHigh)
      else if (s.param (.convPt 7)).value < c then
        ((s.param (.convPt 7)).second,
          if (s.param (.convPt 7)).second < (s.param (.convPt 0)).second then .clampedLow else .clampedHigh)
      else (interpolate c s.convPoints, .good) := rfl

variable {s} {c : Int} (rising : StrictMono fun i : Fin 8 => (s.param (.convPt i)).value)
include rising

/-- The reading of a code in the segment between two neighbouring points (R91). -/
theorem State.mapCode_of_segment {i j : Fin 8} (next : i.val + 1 = j.val) (le : (s.param (.convPt i)).value ≤ c)
    (lt : c < (s.param (.convPt j)).value) :
    mapCode s.convPoints c =
      ((s.param (.convPt i)).second +
        (((s.param (.convPt j)).second - (s.param (.convPt i)).second) * (c - (s.param (.convPt i)).value)).tdiv
          ((s.param (.convPt j)).value - (s.param (.convPt i)).value), .good) := by
  have first : (s.param (.convPt 0)).value ≤ c := (rising.monotone (Fin.zero_le i)).trans le
  have last : c ≤ (s.param (.convPt 7)).value := lt.le.trans (rising.monotone (Fin.le_last j))
  have sorted := s.convPoints_codes_pairwise.mpr fun _ _ h => rising h
  have second := s.convPoints_getElem? j
  rw [← next] at second
  rw [s.mapCode_convPoints, if_neg first.not_gt, if_neg last.not_gt,
    interpolate_segment sorted (s.convPoints_getElem? i) second le lt]

/-- The last point's code reads the last point's temperature (R91). -/
theorem State.mapCode_of_last (last : c = (s.param (.convPt 7)).value) :
    mapCode s.convPoints c = ((s.param (.convPt 7)).second, .good) := by
  have first : (s.param (.convPt 0)).value ≤ c := last ▸ rising.monotone (Fin.zero_le 7)
  have sorted := s.convPoints_codes_pairwise.mpr fun _ _ h => rising h
  rw [s.mapCode_convPoints, if_neg first.not_gt, if_neg last.not_gt,
    interpolate_last sorted (s.convPoints_getElem? 7) rfl last.ge]

end

/-! ## What a conversion makes of its channel -/

theorem isFaultCode_iff (code : BitVec 12) : isFaultCode code = true ↔ code.toNat ≤ 16 ∨ 4080 ≤ code.toNat := by
  simp [isFaultCode]

theorem halfSeconds_eq (n : Nat) : halfSeconds n = 500000 * n := Nat.mul_comm n 500000

theorem TempTag.usable_eq (t : TempTag) : t.usable = (t != .blind && t != .init) := by cases t <;> rfl

/-! ## What a conversion makes of its zone's conditions -/

theorem zoneTemp_of_tempZone {ch : TempCh} {z : Zone} (h : tempZone ch = some z) : zoneTemp z = ch := by
  cases ch <;> cases h <;> rfl

/-- HIGH leaves at HYST below the limit (R118). -/
theorem highAfter_eq (before : Bool) (v high hyst : Int) :
    highAfter before v high hyst = decide ((if before then high - hyst else high) < v) := by cases before <;> rfl

/-- LOW leaves at HYST above the limit (R119). -/
theorem lowAfter_eq (before : Bool) (v low hyst : Int) :
    lowAfter before v low hyst = decide (v < if before then low + hyst else low) := by cases before <;> rfl

/-- HIGH, LOW and BLIND of a zone whose temperature channel has just been written (R118 to R120). -/
theorem State.temperatureConditions_setTemp (s : State) (z : Zone) (c : TempChannel) :
    (s.setTemp (zoneTemp z) c).temperatureConditions z =
      { (s.zone z).cond with
        high :=
          if c.tag.usable = true ∧ (s.param (.high z)).written = true then
            decide ((if (s.zone z).cond.high then s.int (.high z) - s.int (.hyst z) else s.int (.high z)) < c.filtered)
          else (s.zone z).cond.high
        low :=
          if c.tag.usable = true ∧ (s.param (.low z)).written = true then
            decide (c.filtered < if (s.zone z).cond.low then s.int (.low z) + s.int (.hyst z) else s.int (.low z))
          else (s.zone z).cond.low
        blind := !c.tag.usable } := by
  have written : (s.setTemp (zoneTemp z) c).temp (zoneTemp z) = c := by rw [State.temp_setTemp, if_pos rfl]
  have zones (y : Zone) : (s.setTemp (zoneTemp z) c).zone y = s.zone y := rfl
  have params (q : Param) : (s.setTemp (zoneTemp z) c).param q = s.param q := rfl
  have ints (q : Param) : (s.setTemp (zoneTemp z) c).int q = s.int q := rfl
  simp only [State.temperatureConditions, State.usable, State.tempValue, written, zones, params, ints, highAfter_eq,
    lowAfter_eq, Bool.and_eq_true]

/-- Settles O35: the channel moves by its old tag, its zone's conditions are judged from what it became, and the reading of a
ready table is that of the clause its code lies in. -/
theorem conversionMovesItsChannel : Obligations.ConversionMovesItsChannel := by
  intro ch code s old n x y ready m k filtered started new usable judged
  have filterStep : filtered m.1 = filterValue k old.filtered m.1 := (filterValue_eq ..).symm
  have moved : s.convertedChannel ch code = new := by
    refine if_congr (isFaultCode_iff code) ?_ (if_congr Iff.rfl ?_ rfl)
    · change TempChannel.faultConversion { old with raw := code } _ = _
      rw [← halfSeconds_eq]
      cases old.tag <;> rfl
    · change TempChannel.goodConversion { old with raw := code } m.1 m.2 k _ = _
      rw [filterStep]
      cases old.tag <;> rfl
  refine ⟨?_, s.tableReady_iff, ?_⟩
  · change Host.Outcome.next (convertChannel s ch code) = _
    unfold convertChannel
    rw [moved]
    cases zone : tempZone ch with
    | none => rfl
    | some z =>
      obtain rfl := zoneTemp_of_tempZone zone
      simp only [State.refreshTemperature, State.temperatureConditions_setTemp, TempTag.usable_eq]
      rfl
  · rintro ⟨-, rising, -⟩
    have increasing : StrictMono x := fun i j h => rising i j h
    have ends : x 0 < x 7 := increasing (by decide)
    refine ⟨fun below => ?_, fun above => ?_, State.mapCode_of_last increasing,
      fun _ _ => State.mapCode_of_segment increasing⟩
    · exact (s.mapCode_convPoints n).trans (if_pos below)
    · exact ((s.mapCode_convPoints n).trans (if_neg (ends.trans above).not_gt)).trans (if_pos above)

end Sys2Proof.Machine
end

section
/-!
PROOFS. The judgement of delivered heat at a cycle expiry: which flags and conditions an evaluation of a guard keeps, what the
judgement of one loop writes and what it reads, and what the steps of a publication before it leave to it (R109 to R114).
-/

namespace Sys2Proof.Machine

/-! ## Flags -/

/-- A notice's mask is its one bit (R167). -/
theorem Notice.mask_eq_twoPow (n : Notice) : n.mask = BitVec.twoPow 9 n.ctorIdx := by cases n <;> rfl

/-- A notice's flag is its bit of the notice set (R167). -/
theorem LinkPort.flag_eq_getLsbD (l : LinkPort) (n : Notice) : l.flag n = l.flags.getLsbD n.ctorIdx := by
  have mask_ne_zero : BitVec.twoPow 9 n.ctorIdx ≠ 0#9 := by cases n <;> decide
  rw [LinkPort.flag, Notice.mask_eq_twoPow, BitVec.and_twoPow]
  cases l.flags.getLsbD n.ctorIdx
  · rfl
  · simpa using mask_ne_zero

/-- Setting a notice sets its own flag alone. -/
theorem LinkPort.flag_withFlags_mask (l : LinkPort) (m n : Notice) :
    (l.withFlags (l.flags ||| m.mask)).flag n = (l.flag n || n == m) := by
  have own_bit : m.mask.getLsbD n.ctorIdx = (n == m) := by cases m <;> cases n <;> rfl
  rw [LinkPort.flag_eq_getLsbD, LinkPort.withFlags_flags, BitVec.getLsbD_or, own_bit, LinkPort.flag_eq_getLsbD]

theorem State.notify_flag (s : State) (m n : Notice) (p q : Port) :
    ((s.notify m p).port q).flag n = ((s.port q).flag n || (n == m && decide (q = p))) := by
  rw [State.notify_port]
  split
  · next own => rw [LinkPort.flag_withFlags_mask, decide_eq_true own, Bool.and_true]
  · next other => rw [decide_eq_false other, Bool.and_false, Bool.or_false]

theorem State.notify_flag_of_ne (s : State) {m n : Notice} (h : n ≠ m) (p q : Port) :
    ((s.notify m p).port q).flag n = (s.port q).flag n := by
  rw [State.notify_flag, beq_eq_false_iff_ne.mpr h, Bool.false_and, Bool.or_false]

theorem State.notifyAll_flag_of_ne (s : State) {m n : Notice} (h : n ≠ m) (q : Port) :
    ((s.notifyAll m).port q).flag n = (s.port q).flag n := by
  simp only [State.notifyAll, State.notify_flag_of_ne _ h]

theorem State.changeRegime_flag_of_ne (s : State) {n : Notice} (h : n ≠ .regime) (r : Regime) (q : Port) :
    ((s.changeRegime r).port q).flag n = (s.port q).flag n := by
  unfold State.changeRegime
  split
  · rfl
  · exact State.notifyAll_flag_of_ne _ h q

theorem State.resolve_flag_of_ne (s : State) {n : Notice} (h : n ≠ .regime) (q : Port) :
    (s.resolve.port q).flag n = (s.port q).flag n :=
  State.changeRegime_flag_of_ne s.settleChargePending h _ q

/-! ## What an evaluation of a guard keeps -/

section
variable {n : Notice} (noGuard : n ≠ .guard) (noRegime : n ≠ .regime)
include noGuard

theorem State.tripAction_flag_of_ne (s : State) (z : Zone) (q : Port) :
    ((s.tripAction z).port q).flag n = (s.port q).flag n := by
  unfold State.tripAction
  split
  · rfl
  · rw [State.port_congr (State.createSynthetic_frame s z).1]
  · exact s.notifyAll_flag_of_ne noGuard q

theorem State.tripAwake_flag_of_ne (s : State) (z : Zone) (q : Port) :
    ((s.tripAwake z).port q).flag n = (s.port q).flag n := by
  rw [State.tripAwake, State.port_congr (State.shedUpkeep_frame _).1, State.tripAction_flag_of_ne noGuard,
    State.notify_flag_of_ne _ noGuard]
  rfl

include noRegime

/-- A trip sets GUARD and, as it ends DORMANT, REGIME; it keeps every other flag (R80, R127). -/
theorem State.trip_flag_of_ne (s : State) (z : Zone) (q : Port) : ((s.trip z).port q).flag n = (s.port q).flag n := by
  unfold State.trip
  split
  · rw [State.resolve_flag_of_ne _ noRegime, State.tripAwake_flag_of_ne noGuard, State.changeRegime_flag_of_ne _ noRegime]
  · exact s.tripAwake_flag_of_ne noGuard z q

theorem State.evaluate_flag_of_ne (s : State) (z : Zone) (q : Port) :
    ((s.evaluate z).port q).flag n = (s.port q).flag n := by
  unfold State.evaluate
  split
  · rfl
  · split
    · rfl
    · exact s.trip_flag_of_ne noGuard noRegime z q
  · split
    · rw [State.port_congr (State.returnToMatch_frame ..).1]
    · rfl

theorem State.withConditions_flag_of_ne (s : State) (z : Zone) (c : Conditions) (q : Port) :
    ((s.withConditions z c).port q).flag n = (s.port q).flag n := by
  unfold State.withConditions
  split
  · rfl
  · rw [State.evaluate_flag_of_ne noGuard noRegime]
    rfl

end

/-- A zone written with its own conditions keeps every zone's. -/
theorem State.setZone_cond {s : State} {z : Zone} {x : ZoneMonitor} (h : x.cond = (s.zone z).cond) (y : Zone) :
    ((s.setZone z x).zone y).cond = (s.zone y).cond := by
  rw [State.zone_setZone]
  split
  · next e => rw [h, e]
  · rfl

theorem State.tripAwake_cond (s : State) (z y : Zone) : ((s.tripAwake z).zone y).cond = (s.zone y).cond := by
  have zones : (s.tripAwake z).zones =
      (s.setZone z { s.zone z with guard := .tripped, trips := min 255 ((s.zone z).trips + 1) }).zones := by
    simp [State.tripAwake]
  exact (congrArg ZoneMonitor.cond (State.zone_congr zones y)).trans (State.setZone_cond (by rfl) y)

theorem State.trip_cond (s : State) (z y : Zone) : ((s.trip z).zone y).cond = (s.zone y).cond := by
  unfold State.trip
  split
  · rw [State.zone_congr (s := (s.changeRegime .park).tripAwake z) (by simp), State.tripAwake_cond,
      State.zone_congr (s := s) (by simp)]
  · exact s.tripAwake_cond z y

theorem State.returnToMatch_cond (s : State) (z y : Zone) (old : GuardAction) :
    ((s.returnToMatch z old).zone y).cond = (s.zone y).cond := by
  have zones : (s.returnToMatch z old).zones = (s.setZone z { s.zone z with guard := .armed }).zones := by
    simp [State.returnToMatch]
  exact (congrArg ZoneMonitor.cond (State.zone_congr zones y)).trans (State.setZone_cond (by rfl) y)

/-- An evaluation moves the guard and never a condition (R125). -/
theorem State.evaluate_cond (s : State) (z y : Zone) : ((s.evaluate z).zone y).cond = (s.zone y).cond := by
  unfold State.evaluate
  split
  · rfl
  · split
    · rfl
    · exact s.trip_cond z y
  · split
    · exact s.returnToMatch_cond z y _
    · rfl

/-- A zone given its conditions has them, whatever its guard does, and no other zone's change (R117). -/
theorem State.withConditions_cond (s : State) (z y : Zone) (c : Conditions) :
    ((s.withConditions z c).zone y).cond = if y = z then c else (s.zone y).cond := by
  unfold State.withConditions
  split
  · next same =>
    split
    · next e => rw [e, same]
    · rfl
  · rw [State.evaluate_cond, State.zone_setZone]
    split <;> rfl

/-! ## What the judgement of one loop writes -/

/-- The loop's record as judged, and no other (R110 to R112). -/
theorem State.judgeLoop_record (s : State) (l k : Loop) (settled : Bool) :
    (s.judgeLoop l settled).record k = if k = l then s.judged l settled else s.record k := by
  have delivered : (s.judgeLoop l settled).delivered = (s.setRecord l (s.judged l settled)).delivered := by
    unfold State.judgeLoop
    dsimp only
    split <;> simp
  rw [State.record_congr delivered, State.record_setRecord]

/-- SHORT of the loop's zone as judged, and no other condition (R114). -/
theorem State.judgeLoop_cond (s : State) (l : Loop) (y : Zone) (settled : Bool) :
    ((s.judgeLoop l settled).zone y).cond =
      if y = loopZone l then { (s.zone (loopZone l)).cond with short := s.shortAfter l settled } else (s.zone y).cond := by
  unfold State.judgeLoop
  dsimp only
  rw [State.withConditions_cond]
  congr 2
  split
  · exact State.zone_congr (by simp) y
  · rfl

/-- SHORTFALL on the port of the loop's zone where SHORT goes from clear to set, and no other SHORTFALL (R114). -/
theorem State.judgeLoop_shortfall (s : State) (l : Loop) (q : Port) (settled : Bool) :
    ((s.judgeLoop l settled).port q).flag .shortfall =
      ((s.port q).flag .shortfall ||
        (s.shortAfter l settled && !(s.zone (loopZone l)).cond.short && decide (q = zonePort (loopZone l)))) := by
  unfold State.judgeLoop
  dsimp only
  rw [State.withConditions_flag_of_ne (by decide) (by decide)]
  split
  · next set => rw [State.notify_flag, set]; rfl
  · next clear => rw [Bool.eq_false_iff.mpr clear, Bool.false_and, Bool.or_false]; rfl

/-! ## What the judgement of one loop reads -/

/-- Two states that the judgement of a loop does not tell apart: the loop's record, the channels, the parameters, the grant set
before and the conditions of the loop's zone are the same. -/
structure State.JudgedAlike (t s : State) (l : Loop) : Prop where
  record : t.record l = s.record l
  temps : t.temps = s.temps
  flows : t.flows = s.flows
  params : t.params = s.params
  previous : t.alloc.previous = s.alloc.previous
  cond : (t.zone (loopZone l)).cond = (s.zone (loopZone l)).cond

section
variable {s t : State} {l : Loop}

theorem State.JudgedAlike.measure_eq (h : t.JudgedAlike s l) : t.measure l = s.measure l := by
  simp only [State.measure, h.record, State.usable_congr h.temps, State.tempValue_congr h.temps, State.flow_congr h.flows,
    State.num_congr h.params]

theorem State.JudgedAlike.fellShort_eq (h : t.JudgedAlike s l) (settled : Bool) :
    t.fellShort l settled = s.fellShort l settled := by
  simp only [State.fellShort, h.measure_eq, h.previous, State.flow_congr h.flows, State.num_congr h.params]

theorem State.JudgedAlike.judged_eq (h : t.JudgedAlike s l) (settled : Bool) : t.judged l settled = s.judged l settled := by
  simp only [State.judged, h.measure_eq, h.fellShort_eq]

theorem State.JudgedAlike.shortAfter_eq (h : t.JudgedAlike s l) (settled : Bool) :
    t.shortAfter l settled = s.shortAfter l settled := by
  simp only [State.shortAfter, h.measure_eq, h.fellShort_eq, h.judged_eq, h.cond, State.num_congr h.params]

end

theorem loopZone_inj {k l : Loop} : loopZone k = loopZone l ↔ k = l := by cases k <;> cases l <;> decide

theorem zonePort_inj {y z : Zone} : zonePort y = zonePort z ↔ y = z := by cases y <;> cases z <;> decide

/-- The judgement of one loop is nothing to the other's. -/
theorem State.judgeLoop_judgedAlike (s : State) {k l : Loop} (other : l ≠ k) (settled : Bool) :
    (s.judgeLoop k settled).JudgedAlike s l where
  record := by rw [State.judgeLoop_record, if_neg other]
  temps := by simp
  flows := by simp
  params := by simp
  previous := by simp
  cond := by rw [State.judgeLoop_cond, if_neg (loopZone_inj.not.mpr other)]

/-- Both loops judged one after the other, as a publication does it. -/
def State.judgeLoops (s : State) (settled : Bool) : State := (s.judgeLoop .motor settled).judgeLoop .battery settled

section
variable (s : State) (l : Loop) (settled : Bool)

/-- Each loop is judged from the state before both judgements: its record. -/
theorem State.judgeLoops_record : (s.judgeLoops settled).record l = s.judged l settled := by
  cases l
  case motor => simp [State.judgeLoops, State.judgeLoop_record]
  case battery => simp [State.judgeLoops, State.judgeLoop_record, (s.judgeLoop_judgedAlike _ settled).judged_eq]

/-- Each loop is judged from the state before both judgements: the conditions of its zone. -/
theorem State.judgeLoops_cond :
    ((s.judgeLoops settled).zone (loopZone l)).cond =
      { (s.zone (loopZone l)).cond with short := s.shortAfter l settled } := by
  cases l
  case motor => simp [State.judgeLoops, State.judgeLoop_cond, loopZone_inj]
  case battery =>
    have alike : (s.judgeLoop .motor settled).JudgedAlike s .battery := s.judgeLoop_judgedAlike (by decide) settled
    rw [State.judgeLoops, State.judgeLoop_cond, if_pos rfl, alike.cond, alike.shortAfter_eq]

/-- Each loop is judged from the state before both judgements: SHORTFALL on the port of its zone. -/
theorem State.judgeLoops_shortfall :
    ((s.judgeLoops settled).port (zonePort (loopZone l))).flag .shortfall =
      ((s.port (zonePort (loopZone l))).flag .shortfall ||
        (s.shortAfter l settled && !(s.zone (loopZone l)).cond.short)) := by
  cases l
  case motor => simp [State.judgeLoops, State.judgeLoop_shortfall, zonePort_inj, loopZone_inj]
  case battery =>
    have alike : (s.judgeLoop .motor settled).JudgedAlike s .battery := s.judgeLoop_judgedAlike (by decide) settled
    simp [State.judgeLoops, State.judgeLoop_shortfall, zonePort_inj, loopZone_inj, alike.cond, alike.shortAfter_eq]

end

/-! ## The formulas of the judgement -/

theorem State.measure_eq (s : State) (l : Loop) :
    let measured := s.usable (loopOut l) && s.usable (loopIn l)
    let q := wattsOf (s.flow l).flow (s.num (.cpv l)) (s.tempValue (loopOut l) - s.tempValue (loopIn l))
    s.measure l =
      { delivered := if measured then (clampWatts q).tdiv 50 else 0
        measured := measured
        saturated := measured && decide (clampWatts q ≠ q)
        shortfall := (s.record l).shortfall } := by
  intro measured q
  unfold State.measure
  dsimp only
  split
  · next usable => simp only [measured, usable, Bool.true_and, q]
  · next unusable => simp [measured, unusable]

/-- The judgement moves the shortfall counter alone (R112). -/
theorem State.judged_eq (s : State) (l : Loop) (settled : Bool) :
    s.judged l settled =
      { s.measure l with
        shortfall :=
          if (s.measure l).measured = false then (s.record l).shortfall
          else if s.fellShort l settled then min 255 ((s.record l).shortfall + 1)
          else 0 } := by
  have counter : (s.measure l).shortfall = (s.record l).shortfall := by rw [State.measure_eq]
  unfold State.judged
  rw [← counter]
  dsimp only
  split
  · rfl
  · split <;> rfl

theorem signedDelivered_eq (d : Int) (x : Option Sense) :
    signedDelivered d x = if x == some .heat then -d else d := by
  cases x with
  | none => rfl
  | some x => cases x <;> rfl

theorem prevSense_heats (g : Option GrantSet) (l : Loop) :
    (prevSense g l == some .heat) =
      match g with
      | some x => x.loopSense.get (zoneIx (loopZone l)) == some .heat
      | none => false := by
  cases g <;> rfl

/-! ## A cycle expiry up to the judgement -/

/-- The state that a cycle's publication brings to the judgement of the loops (R48, R49). -/
def State.atJudgement (s : State) : State :=
  let a := s.nextPeriod.settleAllowance
  let g := a.grantSet
  let b := (a.writeBackAll g).publish g
  ((b.appendSnapshot (b.snapshotOf g)).publishOutputs g).selectMode

/-- A cycle ends with the judgement of both loops, given the valve as the publication found it (R113). -/
theorem State.runCycle_eq_judgeLoops (s : State) : s.runCycle = s.atJudgement.judgeLoops (s.valve.state == .settled) := by
  have valve : ∀ g, ((s.nextPeriod.settleAllowance.writeBackAll g).publish g).valve = s.valve := by simp
  simp only [State.runCycle, State.onPublication, valve]
  rfl

@[simp] theorem State.atJudgement_frame (s : State) :
    s.atJudgement.temps = s.temps ∧ s.atJudgement.flows = s.flows ∧ s.atJudgement.params = s.params ∧
    s.atJudgement.delivered = s.delivered ∧ s.atJudgement.zones = s.zones := by
  simp [State.atJudgement]

@[simp] theorem State.settleAllowance_published (s : State) : s.settleAllowance.alloc.published = s.alloc.published := by
  unfold State.settleAllowance
  split <;> rfl

/-- The judgement's grant set before is the one that stood published at the expiry (R48). -/
theorem State.atJudgement_previous (s : State) : s.atJudgement.alloc.previous = s.alloc.published := by
  simp [State.atJudgement, State.publish_alloc, State.nextPeriod_alloc]

theorem State.writeBackEntry_flag_of_ne (s : State) {n : Notice} (h : n ≠ .starve) (e : GrantEntry) (q : Port) :
    ((s.writeBackEntry e).port q).flag n = (s.port q).flag n := by
  unfold State.writeBackEntry
  dsimp only
  split
  · rw [State.notify_flag_of_ne _ h]; rfl
  · rfl

theorem State.writeBackAll_flag_of_ne (s : State) {n : Notice} (h : n ≠ .starve) (g : GrantSet) (q : Port) :
    ((s.writeBackAll g).port q).flag n = (s.port q).flag n :=
  foldl_keeps (fun t => (t.port q).flag n) State.writeBackEntry (fun t e => t.writeBackEntry_flag_of_ne h e q) g.entries s

/-- A dropped record moves cursors and overrun marks, and no flag (R176). -/
theorem State.appendSnapshot_flag (s : State) (x : Snapshot) (n : Notice) (q : Port) :
    ((s.appendSnapshot x).port q).flag n = (s.port q).flag n := by
  unfold State.appendSnapshot
  split
  · rfl
  · simp only [State.port, get_mapTable, LinkPort.flag, LinkPort.dropRecord]
    split <;> rfl

theorem State.selectMode_flag_of_ne (s : State) {n : Notice} (h : n ≠ .mode) (q : Port) :
    (s.selectMode.port q).flag n = (s.port q).flag n := by
  unfold State.selectMode
  split
  · rw [State.notifyAll_flag_of_ne _ h]; rfl
  · rfl

/-- The write-back sets STARVE and mode selection MODE; no other flag is set before the judgement (R17, R60). -/
theorem State.atJudgement_flag_of_ne (s : State) {n : Notice} (noStarve : n ≠ .starve) (noMode : n ≠ .mode) (q : Port) :
    (s.atJudgement.port q).flag n = (s.port q).flag n := by
  unfold State.atJudgement
  dsimp only
  rw [State.selectMode_flag_of_ne _ noMode, State.port_congr (State.publishOutputs_frame ..).1, State.appendSnapshot_flag,
    State.port_congr (State.publish_frame ..).1, State.writeBackAll_flag_of_ne _ noStarve,
    State.port_congr (State.settleAllowance_frame _).1, State.port_congr (State.nextPeriod_frame _).1]

theorem exec_cycleExpiry_of_due {s : State} (due : s.alloc.cycleLeft = some 0) : exec .cycleExpiry s = .next s.runCycle := by
  have ran : ranOut s.alloc.cycleLeft = true := by rw [due]; rfl
  exact congrArg Host.Outcome.next (if_pos ran)

/-- Settles O27: each loop is judged from what the expiry found, because nothing before the judgement touches what it reads and
the judgement of one loop is nothing to the other's. -/
theorem cycleExpiryJudgesDeliveredHeat : Obligations.CycleExpiryJudgesDeliveredHeat := by
  intro s due
  refine ⟨s.runCycle, exec_cycleExpiry_of_due due, fun l => ?_⟩
  intro z measured q clamped delivered before heats falls old count short
  obtain ⟨temps, flows, params, records, zones⟩ := s.atJudgement_frame
  have measure : s.atJudgement.measure l =
      { delivered := delivered, measured := measured, saturated := measured && decide (clamped ≠ q)
        shortfall := old.shortfall } := by
    rw [State.measure_eq, State.usable_congr temps, State.usable_congr temps, State.tempValue_congr temps,
      State.tempValue_congr temps, State.flow_congr flows, State.num_congr params, State.record_congr records]
    rfl
  have fellShort : s.atJudgement.fellShort l (s.valve.state == .settled) = falls := by
    rw [State.fellShort, measure, State.atJudgement_previous, State.flow_congr flows, State.num_congr params,
      signedDelivered_eq, prevSense_heats]
    rfl
  have judged : s.atJudgement.judged l (s.valve.state == .settled) =
      { delivered := delivered, measured := measured, saturated := measured && decide (clamped ≠ q)
        shortfall := count } := by
    rw [State.judged_eq, measure, fellShort, State.record_congr records]
  have shortAfter : s.atJudgement.shortAfter l (s.valve.state == .settled) = short := by
    rw [State.shortAfter, measure, fellShort, judged, State.zone_congr zones, State.num_congr params]
  rw [State.runCycle_eq_judgeLoops]
  refine ⟨?_, ?_, ?_⟩
  · rw [State.judgeLoops_record, judged]
  · rw [State.judgeLoops_cond, shortAfter, State.zone_congr zones]
  · have raised := s.atJudgement.judgeLoops_shortfall l (s.valve.state == .settled)
    rw [shortAfter, State.zone_congr zones, State.atJudgement_flag_of_ne s (by decide) (by decide),
      LinkPort.flag_eq_getLsbD, LinkPort.flag_eq_getLsbD] at raised
    exact raised

end Sys2Proof.Machine
end

section
/-!
PROOFS. NEXT and the History Ring: that a good frame's arrival moves no port's cursor or overrun mark, which record an ordinal
finds in a sound ring, and what NEXT answers with it (R176, R177).
-/

namespace Sys2Proof.Machine

/-! ## What a good frame's arrival leaves of a port -/

/-- A port written with an equal reading f leaves f of every port as it is. -/
theorem State.setPort_reading {β : Type} {f : LinkPort → β} {s : State} {p : Port} {l : LinkPort}
    (h : f l = f (s.port p)) (q : Port) : f ((s.setPort p l).port q) = f (s.port q) := by
  rw [State.port_setPort]
  split
  · next e => rw [e, h]
  · rfl

section
variable {β : Type} {f : LinkPort → β} (flags : ∀ l n, f (LinkPort.withFlags l n) = f l)
include flags

theorem State.changeRegime_reading (s : State) (r : Regime) (q : Port) : f ((s.changeRegime r).port q) = f (s.port q) := by
  rw [State.changeRegime_port]
  split
  · rfl
  · exact flags _ _

theorem State.resolve_reading (s : State) (q : Port) : f (s.resolve.port q) = f (s.port q) := by
  rcases s.resolve_port_cases q with same | told
  · rw [same]
  · rw [told, flags]

theorem State.wake_reading (s : State) (q : Port) : f (s.wake.port q) = f (s.port q) := by
  unfold State.wake
  split
  · rw [State.resolve_reading flags, State.changeRegime_reading flags]
  · rfl

theorem State.presenceChanged_reading (s : State) (p q : Port) : f ((s.presenceChanged p).port q) = f (s.port q) := by
  unfold State.presenceChanged State.resolveInRun
  split
  · split
    · exact State.resolve_reading flags s q
    · rfl
  · rfl

/-- What reads neither flags, link timer and presence nor the bits sent out reads the same after a good frame's arrival. -/
theorem State.frameArrives_reading (timer : ∀ l t x, f { l with linkTimer := t, presence := x } = f l)
    (sent : ∀ l b, f { l with sent := b } = f l) (s : State) (p q : Port) (extra : Nat) :
    f ((s.frameArrives p extra).port q) = f (s.port q) := by
  have restart : ∀ t : State, f ((t.restartLink p).port q) = f (t.port q) := by
    intro t
    unfold State.restartLink
    split
    · rw [State.presenceChanged_reading flags, State.setPort_reading (timer _ _ _)]
    · rw [State.setPort_reading (timer _ _ _)]
  rw [State.frameArrives, restart, State.wake_reading flags, State.shiftOut, State.setPort_reading (sent _ _)]

end

theorem State.frameArrives_cursor (s : State) (p q : Port) (extra : Nat) :
    ((s.frameArrives p extra).port q).cursor = (s.port q).cursor :=
  State.frameArrives_reading (fun _ _ => rfl) (fun _ _ _ => rfl) (fun _ _ => rfl) s p q extra

theorem State.frameArrives_overrun (s : State) (p q : Port) (extra : Nat) :
    ((s.frameArrives p extra).port q).overrun = (s.port q).overrun :=
  State.frameArrives_reading (fun _ _ => rfl) (fun _ _ _ => rfl) (fun _ _ => rfl) s p q extra

/-! ## The records of a ring by ordinal -/

section
variable {r : Ring} (counted : r.records.length ≤ r.appended)
include counted

/-- No record has the ordinal of the empty end. -/
theorem Ring.at_emptyEnd : r.at (r.appended + 1) = none := by
  have past_newest : r.records.length ≤ r.appended + 1 - r.oldest := by unfold Ring.oldest; omega
  rw [Ring.at, List.getElem?_eq_none past_newest, ite_self]

/-- Every ordinal from the oldest record to the newest finds its record. -/
theorem Ring.at_eq_some {ordinal : Nat} (oldest : r.oldest ≤ ordinal) (newest : ordinal ≤ r.appended) :
    ∃ x, r.records[ordinal + r.records.length - (r.appended + 1)]? = some x ∧ r.at ordinal = some x := by
  have place : ordinal - r.oldest = ordinal + r.records.length - (r.appended + 1) := by unfold Ring.oldest at *; omega
  have inside : ordinal + r.records.length - (r.appended + 1) < r.records.length := by unfold Ring.oldest at *; omega
  have found := List.getElem?_eq_getElem inside
  exact ⟨_, found, by rw [Ring.at, if_neg (Nat.not_lt.mpr oldest), place, found]⟩

end

/-- A ring holds at most as many records as were appended (R176). -/
theorem State.PortsOk.ring_counted {s : State} (ok : s.PortsOk) : s.ring.records.length ≤ s.ring.appended :=
  ok.ringLength ▸ Nat.min_le_right ..

/-! ## NEXT -/

theorem nextCommand_of_none {p : Port} {s : State} (h : s.ring.at (s.port p).cursor = none) :
    nextCommand p s = ⟨s, .empty, []⟩ := by
  simp only [nextCommand, h]

theorem nextCommand_of_some {p : Port} {s : State} {x : Snapshot} (h : s.ring.at (s.port p).cursor = some x) :
    nextCommand p s =
      ⟨s.setPort p { s.port p with cursor := (s.port p).cursor + 1, overrun := false },
        if (s.port p).overrun then .overrun else .ok, x.bytes⟩ := by
  simp only [nextCommand, h]

/-- A reply staged on a port just written is written with it. -/
theorem State.stage_setPort (s : State) (p : Port) (l : LinkPort) (r : Reply) :
    (s.setPort p l).stage p r = s.setPort p { l with staged := r } := by
  rw [State.stage, State.port_setPort, if_pos rfl]
  simp only [State.setPort, put_put]

theorem packData_nil : packData [] = Vector.replicate 9 0#8 := rfl

theorem exec_next (p : Port) (extra : Nat) (s : State) :
    exec (.next p extra) s = .next (goodFrame p extra 0x0E#8 (nextCommand p) s) := rfl

/-- Settles O50: the frame's arrival leaves the ring, the cursor and the mark, so NEXT finds what stands at the cursor before it:
nothing at the empty end, and a record below it, since a sound cursor is not older than the ring. -/
theorem nextReadsTheRing : Obligations.NextReadsTheRing := by
  intro p extra s ok t cursor
  have ring : t.ring = s.ring := by simp [t]
  have sameCursor : (t.port p).cursor = cursor := s.frameArrives_cursor p p extra
  have sameMark : (t.port p).overrun = (s.port p).overrun := s.frameArrives_overrun p p extra
  have at_cursor : t.ring.at (t.port p).cursor = s.ring.at cursor := by rw [ring, sameCursor]
  obtain ⟨oldest, newest⟩ := ok.cursors p
  rw [exec_next, goodFrame]
  split
  case isTrue empty =>
    have none_left : t.ring.at (t.port p).cursor = none := by rw [at_cursor, empty, Ring.at_emptyEnd ok.ring_counted]
    rw [nextCommand_of_none none_left, packData_nil]
  case isFalse unread =>
    have within : cursor ≤ s.ring.appended := Nat.le_of_lt_succ (Nat.lt_of_le_of_ne newest unread)
    obtain ⟨x, record, found⟩ := Ring.at_eq_some ok.ring_counted oldest within
    refine ⟨x, record, ?_⟩
    rw [nextCommand_of_some (at_cursor.trans found), State.stage_setPort, sameCursor, sameMark]
    rfl

end Sys2Proof.Machine
end

section
/-!
PROOFS. What each event and each frame's command leaves alone, and how a property of the part is shown of every step: it is kept by
what every frame does, by each command, by each event, by a reset and by a tick.
-/

namespace Sys2Proof.Machine

/-! ## What the events leave alone -/

@[simp] theorem riseHvReady_frame (s : State) :
    (riseHvReady s).demands = s.demands ∧ (riseHvReady s).age = s.age ∧ (riseHvReady s).alloc = s.alloc ∧
    (riseHvReady s).valve = s.valve ∧ (riseHvReady s).temps = s.temps ∧ (riseHvReady s).flows = s.flows ∧
    (riseHvReady s).delivered = s.delivered ∧ (riseHvReady s).zones = s.zones ∧ (riseHvReady s).shed = s.shed ∧
    (riseHvReady s).pwm = s.pwm ∧ (riseHvReady s).params = s.params ∧ (riseHvReady s).setup = s.setup ∧
    (riseHvReady s).ring = s.ring ∧ (riseHvReady s).resetRecord = s.resetRecord ∧ (riseHvReady s).valveAt =
    s.valveAt ∧ (riseHvReady s).pending = s.pending ∧ (riseHvReady s).timeBase = s.timeBase := by
  simp [riseHvReady]

@[simp] theorem fallHvReady_frame (s : State) :
    (fallHvReady s).demands = s.demands ∧ (fallHvReady s).age = s.age ∧ (fallHvReady s).alloc = s.alloc ∧
    (fallHvReady s).valve = s.valve ∧ (fallHvReady s).temps = s.temps ∧ (fallHvReady s).flows = s.flows ∧
    (fallHvReady s).delivered = s.delivered ∧ (fallHvReady s).zones = s.zones ∧ (fallHvReady s).shed = s.shed ∧
    (fallHvReady s).pwm = s.pwm ∧ (fallHvReady s).params = s.params ∧ (fallHvReady s).setup = s.setup ∧
    (fallHvReady s).ring = s.ring ∧ (fallHvReady s).resetRecord = s.resetRecord ∧ (fallHvReady s).valveAt =
    s.valveAt ∧ (fallHvReady s).pending = s.pending ∧ (fallHvReady s).timeBase = s.timeBase := by
  simp [fallHvReady]

@[simp] theorem expirePrime_frame (s : State) :
    (expirePrime s).demands = s.demands ∧ (expirePrime s).age = s.age ∧ (expirePrime s).alloc = s.alloc ∧
    (expirePrime s).valve = s.valve ∧ (expirePrime s).temps = s.temps ∧ (expirePrime s).flows = s.flows ∧
    (expirePrime s).delivered = s.delivered ∧ (expirePrime s).zones = s.zones ∧ (expirePrime s).shed = s.shed ∧
    (expirePrime s).pwm = s.pwm ∧ (expirePrime s).params = s.params ∧ (expirePrime s).setup = s.setup ∧
    (expirePrime s).ring = s.ring ∧ (expirePrime s).resetRecord = s.resetRecord ∧ (expirePrime s).hvReady =
    s.hvReady ∧ (expirePrime s).valveAt = s.valveAt ∧ (expirePrime s).pending = s.pending ∧ (expirePrime
    s).timeBase = s.timeBase := by
  unfold expirePrime; (repeat' split) <;> simp

@[simp] theorem expireDormant_frame (s : State) :
    (expireDormant s).demands = s.demands ∧ (expireDormant s).age = s.age ∧ (expireDormant s).alloc = s.alloc ∧
    (expireDormant s).valve = s.valve ∧ (expireDormant s).temps = s.temps ∧ (expireDormant s).flows = s.flows ∧
    (expireDormant s).delivered = s.delivered ∧ (expireDormant s).zones = s.zones ∧ (expireDormant s).shed =
    s.shed ∧ (expireDormant s).params = s.params ∧ (expireDormant s).setup = s.setup ∧ (expireDormant s).ring =
    s.ring ∧ (expireDormant s).resetRecord = s.resetRecord ∧ (expireDormant s).hvReady = s.hvReady ∧
    (expireDormant s).valveAt = s.valveAt ∧ (expireDormant s).pending = s.pending ∧ (expireDormant s).timeBase =
    s.timeBase := by
  unfold expireDormant; split <;> simp

@[simp] theorem timeoutTravel_frame (s : State) :
    (timeoutTravel s).demands = s.demands ∧ (timeoutTravel s).age = s.age ∧ (timeoutTravel s).alloc = s.alloc ∧
    (timeoutTravel s).regime = s.regime ∧ (timeoutTravel s).temps = s.temps ∧ (timeoutTravel s).flows = s.flows
    ∧ (timeoutTravel s).delivered = s.delivered ∧ (timeoutTravel s).zones = s.zones ∧ (timeoutTravel s).shed =
    s.shed ∧ (timeoutTravel s).pwm = s.pwm ∧ (timeoutTravel s).params = s.params ∧ (timeoutTravel s).setup =
    s.setup ∧ (timeoutTravel s).ring = s.ring ∧ (timeoutTravel s).resetRecord = s.resetRecord ∧ (timeoutTravel
    s).hvReady = s.hvReady ∧ (timeoutTravel s).valveAt = s.valveAt ∧ (timeoutTravel s).pending = s.pending ∧
    (timeoutTravel s).timeBase = s.timeBase := by
  unfold timeoutTravel; (repeat' split) <;> simp

@[simp] theorem retryTravel_frame (s : State) :
    (retryTravel s).demands = s.demands ∧ (retryTravel s).age = s.age ∧ (retryTravel s).alloc = s.alloc ∧
    (retryTravel s).regime = s.regime ∧ (retryTravel s).temps = s.temps ∧ (retryTravel s).flows = s.flows ∧
    (retryTravel s).delivered = s.delivered ∧ (retryTravel s).zones = s.zones ∧ (retryTravel s).shed = s.shed ∧
    (retryTravel s).pwm = s.pwm ∧ (retryTravel s).params = s.params ∧ (retryTravel s).setup = s.setup ∧
    (retryTravel s).ring = s.ring ∧ (retryTravel s).resetRecord = s.resetRecord ∧ (retryTravel s).hvReady =
    s.hvReady ∧ (retryTravel s).valveAt = s.valveAt ∧ (retryTravel s).pending = s.pending ∧ (retryTravel
    s).timeBase = s.timeBase := by
  unfold retryTravel; split <;> simp

@[simp] theorem expireDwell_frame (s : State) :
    (expireDwell s).ports = s.ports ∧ (expireDwell s).demands = s.demands ∧ (expireDwell s).age = s.age ∧
    (expireDwell s).alloc = s.alloc ∧ (expireDwell s).regime = s.regime ∧ (expireDwell s).temps = s.temps ∧
    (expireDwell s).flows = s.flows ∧ (expireDwell s).delivered = s.delivered ∧ (expireDwell s).zones = s.zones
    ∧ (expireDwell s).shed = s.shed ∧ (expireDwell s).pwm = s.pwm ∧ (expireDwell s).params = s.params ∧
    (expireDwell s).setup = s.setup ∧ (expireDwell s).ring = s.ring ∧ (expireDwell s).resetRecord =
    s.resetRecord ∧ (expireDwell s).hvReady = s.hvReady ∧ (expireDwell s).valveAt = s.valveAt ∧ (expireDwell
    s).pending = s.pending ∧ (expireDwell s).timeBase = s.timeBase := by
  unfold expireDwell; split <;> simp

@[simp] theorem assertValveAt_frame (s : State) :
    (assertValveAt s).demands = s.demands ∧ (assertValveAt s).age = s.age ∧ (assertValveAt s).alloc = s.alloc ∧
    (assertValveAt s).regime = s.regime ∧ (assertValveAt s).temps = s.temps ∧ (assertValveAt s).flows = s.flows
    ∧ (assertValveAt s).delivered = s.delivered ∧ (assertValveAt s).zones = s.zones ∧ (assertValveAt s).shed =
    s.shed ∧ (assertValveAt s).pwm = s.pwm ∧ (assertValveAt s).params = s.params ∧ (assertValveAt s).setup =
    s.setup ∧ (assertValveAt s).ring = s.ring ∧ (assertValveAt s).resetRecord = s.resetRecord ∧ (assertValveAt
    s).hvReady = s.hvReady ∧ (assertValveAt s).pending = s.pending ∧ (assertValveAt s).timeBase = s.timeBase := by
  unfold assertValveAt; dsimp only; split <;> simp

@[simp] theorem deassertValveAt_frame (s : State) :
    (deassertValveAt s).demands = s.demands ∧ (deassertValveAt s).age = s.age ∧ (deassertValveAt s).alloc =
    s.alloc ∧ (deassertValveAt s).regime = s.regime ∧ (deassertValveAt s).temps = s.temps ∧ (deassertValveAt
    s).flows = s.flows ∧ (deassertValveAt s).delivered = s.delivered ∧ (deassertValveAt s).zones = s.zones ∧
    (deassertValveAt s).shed = s.shed ∧ (deassertValveAt s).pwm = s.pwm ∧ (deassertValveAt s).params = s.params
    ∧ (deassertValveAt s).setup = s.setup ∧ (deassertValveAt s).ring = s.ring ∧ (deassertValveAt s).resetRecord
    = s.resetRecord ∧ (deassertValveAt s).hvReady = s.hvReady ∧ (deassertValveAt s).pending = s.pending ∧
    (deassertValveAt s).timeBase = s.timeBase := by
  unfold deassertValveAt; dsimp only; split <;> simp

@[simp] theorem expireCycle_frame (s : State) :
    (expireCycle s).temps = s.temps ∧ (expireCycle s).flows = s.flows ∧ (expireCycle s).params = s.params ∧
    (expireCycle s).setup = s.setup ∧ (expireCycle s).resetRecord = s.resetRecord ∧ (expireCycle s).hvReady =
    s.hvReady ∧ (expireCycle s).valveAt = s.valveAt ∧ (expireCycle s).pending = s.pending ∧ (expireCycle
    s).timeBase = s.timeBase := by
  unfold expireCycle; split <;> simp

@[simp] theorem expireAllowance_frame (s : State) :
    (expireAllowance s).demands = s.demands ∧ (expireAllowance s).age = s.age ∧ (expireAllowance s).valve =
    s.valve ∧ (expireAllowance s).regime = s.regime ∧ (expireAllowance s).temps = s.temps ∧ (expireAllowance
    s).flows = s.flows ∧ (expireAllowance s).delivered = s.delivered ∧ (expireAllowance s).zones = s.zones ∧
    (expireAllowance s).shed = s.shed ∧ (expireAllowance s).pwm = s.pwm ∧ (expireAllowance s).params = s.params
    ∧ (expireAllowance s).setup = s.setup ∧ (expireAllowance s).ring = s.ring ∧ (expireAllowance s).resetRecord
    = s.resetRecord ∧ (expireAllowance s).hvReady = s.hvReady ∧ (expireAllowance s).valveAt = s.valveAt ∧
    (expireAllowance s).pending = s.pending ∧ (expireAllowance s).timeBase = s.timeBase := by
  unfold expireAllowance; split <;> simp

@[simp] theorem expireLink_frame (s : State) (p : Port) :
    (expireLink s p).demands = s.demands ∧ (expireLink s p).age = s.age ∧ (expireLink s p).alloc = s.alloc ∧
    (expireLink s p).valve = s.valve ∧ (expireLink s p).temps = s.temps ∧ (expireLink s p).flows = s.flows ∧
    (expireLink s p).delivered = s.delivered ∧ (expireLink s p).zones = s.zones ∧ (expireLink s p).shed = s.shed
    ∧ (expireLink s p).pwm = s.pwm ∧ (expireLink s p).params = s.params ∧ (expireLink s p).setup = s.setup ∧
    (expireLink s p).ring = s.ring ∧ (expireLink s p).resetRecord = s.resetRecord ∧ (expireLink s p).hvReady =
    s.hvReady ∧ (expireLink s p).valveAt = s.valveAt ∧ (expireLink s p).pending = s.pending ∧ (expireLink s
    p).timeBase = s.timeBase := by
  unfold expireLink; split <;> simp

@[simp] theorem expireLease_frame (s : State) (z : Zone) (k : Fin 4) :
    (expireLease s z k).alloc = s.alloc ∧ (expireLease s z k).valve = s.valve ∧ (expireLease s z k).temps =
    s.temps ∧ (expireLease s z k).flows = s.flows ∧ (expireLease s z k).delivered = s.delivered ∧ (expireLease s
    z k).zones = s.zones ∧ (expireLease s z k).shed = s.shed ∧ (expireLease s z k).pwm = s.pwm ∧ (expireLease s
    z k).params = s.params ∧ (expireLease s z k).setup = s.setup ∧ (expireLease s z k).ring = s.ring ∧
    (expireLease s z k).resetRecord = s.resetRecord ∧ (expireLease s z k).hvReady = s.hvReady ∧ (expireLease s z
    k).valveAt = s.valveAt ∧ (expireLease s z k).pending = s.pending ∧ (expireLease s z k).timeBase = s.timeBase := by
  unfold expireLease; split <;> simp

@[simp] theorem takeBoundary_frame (s : State) (c : PwmCh) :
    (takeBoundary s c).ports = s.ports ∧ (takeBoundary s c).demands = s.demands ∧ (takeBoundary s c).age = s.age
    ∧ (takeBoundary s c).alloc = s.alloc ∧ (takeBoundary s c).valve = s.valve ∧ (takeBoundary s c).regime =
    s.regime ∧ (takeBoundary s c).temps = s.temps ∧ (takeBoundary s c).flows = s.flows ∧ (takeBoundary s
    c).delivered = s.delivered ∧ (takeBoundary s c).zones = s.zones ∧ (takeBoundary s c).shed = s.shed ∧
    (takeBoundary s c).params = s.params ∧ (takeBoundary s c).setup = s.setup ∧ (takeBoundary s c).ring = s.ring
    ∧ (takeBoundary s c).resetRecord = s.resetRecord ∧ (takeBoundary s c).hvReady = s.hvReady ∧ (takeBoundary s
    c).valveAt = s.valveAt ∧ (takeBoundary s c).pending = s.pending ∧ (takeBoundary s c).timeBase = s.timeBase := by
  unfold takeBoundary; split <;> simp

/-! ## What the commands of frames leave alone -/

@[simp] theorem State.renewSlot_frame (s : State) (i : Fin 15) :
    (s.renewSlot i).ports = s.ports ∧ (s.renewSlot i).age = s.age ∧ (s.renewSlot i).alloc = s.alloc ∧
    (s.renewSlot i).valve = s.valve ∧ (s.renewSlot i).regime = s.regime ∧ (s.renewSlot i).temps = s.temps ∧
    (s.renewSlot i).flows = s.flows ∧ (s.renewSlot i).delivered = s.delivered ∧ (s.renewSlot i).zones = s.zones
    ∧ (s.renewSlot i).shed = s.shed ∧ (s.renewSlot i).pwm = s.pwm ∧ (s.renewSlot i).params = s.params ∧
    (s.renewSlot i).setup = s.setup ∧ (s.renewSlot i).ring = s.ring ∧ (s.renewSlot i).resetRecord =
    s.resetRecord ∧ (s.renewSlot i).hvReady = s.hvReady ∧ (s.renewSlot i).valveAt = s.valveAt ∧ (s.renewSlot
    i).pending = s.pending ∧ (s.renewSlot i).timeBase = s.timeBase := by
  simp [State.renewSlot]

@[simp] theorem foldl_renewSlot_frame (s : State) (z : Zone) (ks : List (Fin 4)) :
    (ks.foldl (fun t k => t.renewSlot (postedIx z k)) s).ports = s.ports ∧ (ks.foldl (fun t k => t.renewSlot
    (postedIx z k)) s).age = s.age ∧ (ks.foldl (fun t k => t.renewSlot (postedIx z k)) s).alloc = s.alloc ∧
    (ks.foldl (fun t k => t.renewSlot (postedIx z k)) s).valve = s.valve ∧ (ks.foldl (fun t k => t.renewSlot
    (postedIx z k)) s).regime = s.regime ∧ (ks.foldl (fun t k => t.renewSlot (postedIx z k)) s).temps = s.temps
    ∧ (ks.foldl (fun t k => t.renewSlot (postedIx z k)) s).flows = s.flows ∧ (ks.foldl (fun t k => t.renewSlot
    (postedIx z k)) s).delivered = s.delivered ∧ (ks.foldl (fun t k => t.renewSlot (postedIx z k)) s).zones =
    s.zones ∧ (ks.foldl (fun t k => t.renewSlot (postedIx z k)) s).shed = s.shed ∧ (ks.foldl (fun t k =>
    t.renewSlot (postedIx z k)) s).pwm = s.pwm ∧ (ks.foldl (fun t k => t.renewSlot (postedIx z k)) s).params =
    s.params ∧ (ks.foldl (fun t k => t.renewSlot (postedIx z k)) s).setup = s.setup ∧ (ks.foldl (fun t k =>
    t.renewSlot (postedIx z k)) s).ring = s.ring ∧ (ks.foldl (fun t k => t.renewSlot (postedIx z k))
    s).resetRecord = s.resetRecord ∧ (ks.foldl (fun t k => t.renewSlot (postedIx z k)) s).hvReady = s.hvReady ∧
    (ks.foldl (fun t k => t.renewSlot (postedIx z k)) s).valveAt = s.valveAt ∧ (ks.foldl (fun t k => t.renewSlot
    (postedIx z k)) s).pending = s.pending ∧ (ks.foldl (fun t k => t.renewSlot (postedIx z k)) s).timeBase =
    s.timeBase := by
  refine ⟨?_, ?_, ?_, ?_, ?_, ?_, ?_, ?_, ?_, ?_, ?_, ?_, ?_, ?_, ?_, ?_, ?_, ?_, ?_⟩ <;> exact foldl_keeps _ _ (fun t k => by simp) ks s

@[simp] theorem foldl_freeSlot_frame (s : State) (z : Zone) (ks : List (Fin 4)) :
    (ks.foldl (fun t k => t.freeSlot (postedIx z k)) s).ports = s.ports ∧ (ks.foldl (fun t k => t.freeSlot
    (postedIx z k)) s).alloc = s.alloc ∧ (ks.foldl (fun t k => t.freeSlot (postedIx z k)) s).valve = s.valve ∧
    (ks.foldl (fun t k => t.freeSlot (postedIx z k)) s).temps = s.temps ∧ (ks.foldl (fun t k => t.freeSlot
    (postedIx z k)) s).flows = s.flows ∧ (ks.foldl (fun t k => t.freeSlot (postedIx z k)) s).delivered =
    s.delivered ∧ (ks.foldl (fun t k => t.freeSlot (postedIx z k)) s).zones = s.zones ∧ (ks.foldl (fun t k =>
    t.freeSlot (postedIx z k)) s).shed = s.shed ∧ (ks.foldl (fun t k => t.freeSlot (postedIx z k)) s).pwm =
    s.pwm ∧ (ks.foldl (fun t k => t.freeSlot (postedIx z k)) s).params = s.params ∧ (ks.foldl (fun t k =>
    t.freeSlot (postedIx z k)) s).setup = s.setup ∧ (ks.foldl (fun t k => t.freeSlot (postedIx z k)) s).ring =
    s.ring ∧ (ks.foldl (fun t k => t.freeSlot (postedIx z k)) s).resetRecord = s.resetRecord ∧ (ks.foldl (fun t
    k => t.freeSlot (postedIx z k)) s).hvReady = s.hvReady ∧ (ks.foldl (fun t k => t.freeSlot (postedIx z k))
    s).valveAt = s.valveAt ∧ (ks.foldl (fun t k => t.freeSlot (postedIx z k)) s).pending = s.pending ∧ (ks.foldl
    (fun t k => t.freeSlot (postedIx z k)) s).timeBase = s.timeBase := by
  refine ⟨?_, ?_, ?_, ?_, ?_, ?_, ?_, ?_, ?_, ?_, ?_, ?_, ?_, ?_, ?_, ?_, ?_⟩ <;> exact foldl_keeps _ _ (fun t k => by simp) ks s

@[simp] theorem postCommand_frame (p : Port) (slot sense tier weight : Byte) (asked : Word) (lease : Byte) (s : State) :
    (postCommand p slot sense tier weight asked lease s).state.ports = s.ports ∧ (postCommand p slot sense tier
    weight asked lease s).state.alloc = s.alloc ∧ (postCommand p slot sense tier weight asked lease
    s).state.valve = s.valve ∧ (postCommand p slot sense tier weight asked lease s).state.temps = s.temps ∧
    (postCommand p slot sense tier weight asked lease s).state.flows = s.flows ∧ (postCommand p slot sense tier
    weight asked lease s).state.delivered = s.delivered ∧ (postCommand p slot sense tier weight asked lease
    s).state.zones = s.zones ∧ (postCommand p slot sense tier weight asked lease s).state.shed = s.shed ∧
    (postCommand p slot sense tier weight asked lease s).state.pwm = s.pwm ∧ (postCommand p slot sense tier
    weight asked lease s).state.params = s.params ∧ (postCommand p slot sense tier weight asked lease
    s).state.setup = s.setup ∧ (postCommand p slot sense tier weight asked lease s).state.ring = s.ring ∧
    (postCommand p slot sense tier weight asked lease s).state.resetRecord = s.resetRecord ∧ (postCommand p slot
    sense tier weight asked lease s).state.hvReady = s.hvReady ∧ (postCommand p slot sense tier weight asked
    lease s).state.valveAt = s.valveAt ∧ (postCommand p slot sense tier weight asked lease s).state.pending =
    s.pending ∧ (postCommand p slot sense tier weight asked lease s).state.timeBase = s.timeBase := by
  unfold postCommand State.refusePost State.takePost; (repeat' split) <;> simp

@[simp] theorem renewCommand_frame (p : Port) (slots : Byte) (s : State) :
    (renewCommand p slots s).state.ports = s.ports ∧ (renewCommand p slots s).state.age = s.age ∧ (renewCommand
    p slots s).state.alloc = s.alloc ∧ (renewCommand p slots s).state.valve = s.valve ∧ (renewCommand p slots
    s).state.regime = s.regime ∧ (renewCommand p slots s).state.temps = s.temps ∧ (renewCommand p slots
    s).state.flows = s.flows ∧ (renewCommand p slots s).state.delivered = s.delivered ∧ (renewCommand p slots
    s).state.zones = s.zones ∧ (renewCommand p slots s).state.shed = s.shed ∧ (renewCommand p slots s).state.pwm
    = s.pwm ∧ (renewCommand p slots s).state.params = s.params ∧ (renewCommand p slots s).state.setup = s.setup
    ∧ (renewCommand p slots s).state.ring = s.ring ∧ (renewCommand p slots s).state.resetRecord = s.resetRecord
    ∧ (renewCommand p slots s).state.hvReady = s.hvReady ∧ (renewCommand p slots s).state.valveAt = s.valveAt ∧
    (renewCommand p slots s).state.pending = s.pending ∧ (renewCommand p slots s).state.timeBase = s.timeBase := by
  unfold renewCommand; dsimp only [slotAnswer]; (repeat' split) <;> simp

@[simp] theorem dropCommand_frame (p : Port) (slots : Byte) (s : State) :
    (dropCommand p slots s).state.ports = s.ports ∧ (dropCommand p slots s).state.alloc = s.alloc ∧ (dropCommand
    p slots s).state.valve = s.valve ∧ (dropCommand p slots s).state.temps = s.temps ∧ (dropCommand p slots
    s).state.flows = s.flows ∧ (dropCommand p slots s).state.delivered = s.delivered ∧ (dropCommand p slots
    s).state.zones = s.zones ∧ (dropCommand p slots s).state.shed = s.shed ∧ (dropCommand p slots s).state.pwm =
    s.pwm ∧ (dropCommand p slots s).state.params = s.params ∧ (dropCommand p slots s).state.setup = s.setup ∧
    (dropCommand p slots s).state.ring = s.ring ∧ (dropCommand p slots s).state.resetRecord = s.resetRecord ∧
    (dropCommand p slots s).state.hvReady = s.hvReady ∧ (dropCommand p slots s).state.valveAt = s.valveAt ∧
    (dropCommand p slots s).state.pending = s.pending ∧ (dropCommand p slots s).state.timeBase = s.timeBase := by
  unfold dropCommand; dsimp only [slotAnswer]; (repeat' split) <;> simp

@[simp] theorem allowCommand_frame (p : Port) (value : Word) (lease : Byte) (s : State) :
    (allowCommand p value lease s).state.ports = s.ports ∧ (allowCommand p value lease s).state.demands =
    s.demands ∧ (allowCommand p value lease s).state.age = s.age ∧ (allowCommand p value lease s).state.valve =
    s.valve ∧ (allowCommand p value lease s).state.regime = s.regime ∧ (allowCommand p value lease
    s).state.temps = s.temps ∧ (allowCommand p value lease s).state.flows = s.flows ∧ (allowCommand p value
    lease s).state.delivered = s.delivered ∧ (allowCommand p value lease s).state.zones = s.zones ∧
    (allowCommand p value lease s).state.shed = s.shed ∧ (allowCommand p value lease s).state.pwm = s.pwm ∧
    (allowCommand p value lease s).state.params = s.params ∧ (allowCommand p value lease s).state.setup =
    s.setup ∧ (allowCommand p value lease s).state.ring = s.ring ∧ (allowCommand p value lease
    s).state.resetRecord = s.resetRecord ∧ (allowCommand p value lease s).state.hvReady = s.hvReady ∧
    (allowCommand p value lease s).state.valveAt = s.valveAt ∧ (allowCommand p value lease s).state.pending =
    s.pending ∧ (allowCommand p value lease s).state.timeBase = s.timeBase := by
  unfold allowCommand; dsimp only; (repeat' split) <;> simp

@[simp] theorem takeVoteM_frame (s : State) (v : VoteM) :
    (s.takeVoteM v).demands = s.demands ∧ (s.takeVoteM v).age = s.age ∧ (s.takeVoteM v).alloc = s.alloc ∧
    (s.takeVoteM v).valve = s.valve ∧ (s.takeVoteM v).temps = s.temps ∧ (s.takeVoteM v).flows = s.flows ∧
    (s.takeVoteM v).delivered = s.delivered ∧ (s.takeVoteM v).zones = s.zones ∧ (s.takeVoteM v).shed = s.shed ∧
    (s.takeVoteM v).pwm = s.pwm ∧ (s.takeVoteM v).params = s.params ∧ (s.takeVoteM v).setup = s.setup ∧
    (s.takeVoteM v).ring = s.ring ∧ (s.takeVoteM v).resetRecord = s.resetRecord ∧ (s.takeVoteM v).hvReady =
    s.hvReady ∧ (s.takeVoteM v).valveAt = s.valveAt ∧ (s.takeVoteM v).pending = s.pending ∧ (s.takeVoteM
    v).timeBase = s.timeBase := by
  unfold State.takeVoteM; dsimp only; split <;> simp

@[simp] theorem takeVoteB_frame (s : State) (v : VoteB) :
    (s.takeVoteB v).demands = s.demands ∧ (s.takeVoteB v).age = s.age ∧ (s.takeVoteB v).alloc = s.alloc ∧
    (s.takeVoteB v).valve = s.valve ∧ (s.takeVoteB v).temps = s.temps ∧ (s.takeVoteB v).flows = s.flows ∧
    (s.takeVoteB v).delivered = s.delivered ∧ (s.takeVoteB v).zones = s.zones ∧ (s.takeVoteB v).shed = s.shed ∧
    (s.takeVoteB v).pwm = s.pwm ∧ (s.takeVoteB v).params = s.params ∧ (s.takeVoteB v).setup = s.setup ∧
    (s.takeVoteB v).ring = s.ring ∧ (s.takeVoteB v).resetRecord = s.resetRecord ∧ (s.takeVoteB v).hvReady =
    s.hvReady ∧ (s.takeVoteB v).valveAt = s.valveAt ∧ (s.takeVoteB v).pending = s.pending ∧ (s.takeVoteB
    v).timeBase = s.timeBase := by
  unfold State.takeVoteB; dsimp only; split <;> simp

/-- A VOTE is refused, or taken as a vote of port M or B (R71). -/
theorem voteCommand_state (p : Port) (v : Byte) (s : State) :
    (voteCommand p v s).state = s ∨ (∃ w, (voteCommand p v s).state = s.takeVoteM w) ∨
      ∃ w, (voteCommand p v s).state = s.takeVoteB w := by
  by_cases zero : v = 0#8
  · subst zero
    cases p
    · exact .inr (.inl ⟨_, rfl⟩)
    · exact .inr (.inr ⟨_, rfl⟩)
    · exact .inl rfl
  by_cases one : v = 1#8
  · subst one
    cases p
    · exact .inr (.inl ⟨_, rfl⟩)
    · exact .inr (.inr ⟨_, rfl⟩)
    · exact .inl rfl
  · left
    cases p <;> simp [voteCommand, zero, one]

@[simp] theorem voteCommand_frame (p : Port) (v : Byte) (s : State) :
    (voteCommand p v s).state.demands = s.demands ∧ (voteCommand p v s).state.age = s.age ∧ (voteCommand p v
    s).state.alloc = s.alloc ∧ (voteCommand p v s).state.valve = s.valve ∧ (voteCommand p v s).state.temps =
    s.temps ∧ (voteCommand p v s).state.flows = s.flows ∧ (voteCommand p v s).state.delivered = s.delivered ∧
    (voteCommand p v s).state.zones = s.zones ∧ (voteCommand p v s).state.shed = s.shed ∧ (voteCommand p v
    s).state.pwm = s.pwm ∧ (voteCommand p v s).state.params = s.params ∧ (voteCommand p v s).state.setup =
    s.setup ∧ (voteCommand p v s).state.ring = s.ring ∧ (voteCommand p v s).state.resetRecord = s.resetRecord ∧
    (voteCommand p v s).state.hvReady = s.hvReady ∧ (voteCommand p v s).state.valveAt = s.valveAt ∧ (voteCommand
    p v s).state.pending = s.pending ∧ (voteCommand p v s).state.timeBase = s.timeBase := by
  rcases voteCommand_state p v s with e | ⟨w, e⟩ | ⟨w, e⟩ <;> rw [e] <;> simp

@[simp] theorem setpCommand_frame (p : Port) (id : Byte) (first second : Word) (s : State) :
    (setpCommand p id first second s).state.alloc = s.alloc ∧ (setpCommand p id first second s).state.valve =
    s.valve ∧ (setpCommand p id first second s).state.delivered = s.delivered ∧ (setpCommand p id first second
    s).state.pwm = s.pwm ∧ (setpCommand p id first second s).state.ring = s.ring ∧ (setpCommand p id first
    second s).state.resetRecord = s.resetRecord ∧ (setpCommand p id first second s).state.hvReady = s.hvReady ∧
    (setpCommand p id first second s).state.valveAt = s.valveAt ∧ (setpCommand p id first second
    s).state.pending = s.pending ∧ (setpCommand p id first second s).state.timeBase = s.timeBase := by
  unfold setpCommand State.setKnown; (repeat' split) <;> simp

@[simp] theorem startCommand_frame (p : Port) (s : State) :
    (startCommand p s).state.valve = s.valve ∧ (startCommand p s).state.temps = s.temps ∧ (startCommand p
    s).state.flows = s.flows ∧ (startCommand p s).state.delivered = s.delivered ∧ (startCommand p
    s).state.params = s.params ∧ (startCommand p s).state.ring = s.ring ∧ (startCommand p s).state.resetRecord =
    s.resetRecord ∧ (startCommand p s).state.hvReady = s.hvReady ∧ (startCommand p s).state.valveAt = s.valveAt
    ∧ (startCommand p s).state.pending = s.pending ∧ (startCommand p s).state.timeBase = s.timeBase := by
  unfold startCommand; dsimp only; split <;> simp

@[simp] theorem unstartCommand_frame (p : Port) (s : State) :
    (unstartCommand p s).state.ports = s.ports ∧ (unstartCommand p s).state.demands = s.demands ∧
    (unstartCommand p s).state.age = s.age ∧ (unstartCommand p s).state.alloc = s.alloc ∧ (unstartCommand p
    s).state.valve = s.valve ∧ (unstartCommand p s).state.regime = s.regime ∧ (unstartCommand p s).state.temps =
    s.temps ∧ (unstartCommand p s).state.flows = s.flows ∧ (unstartCommand p s).state.delivered = s.delivered ∧
    (unstartCommand p s).state.zones = s.zones ∧ (unstartCommand p s).state.shed = s.shed ∧ (unstartCommand p
    s).state.pwm = s.pwm ∧ (unstartCommand p s).state.params = s.params ∧ (unstartCommand p s).state.ring =
    s.ring ∧ (unstartCommand p s).state.resetRecord = s.resetRecord ∧ (unstartCommand p s).state.hvReady =
    s.hvReady ∧ (unstartCommand p s).state.valveAt = s.valveAt ∧ (unstartCommand p s).state.pending = s.pending
    ∧ (unstartCommand p s).state.timeBase = s.timeBase := by
  unfold unstartCommand; dsimp only; split <;> simp

@[simp] theorem forceChannel_frame (ch : Byte) (status : Status) (f : PwmChannel → PwmChannel) (s : State) :
    (forceChannel ch status f s).state.ports = s.ports ∧ (forceChannel ch status f s).state.demands = s.demands
    ∧ (forceChannel ch status f s).state.age = s.age ∧ (forceChannel ch status f s).state.alloc = s.alloc ∧
    (forceChannel ch status f s).state.valve = s.valve ∧ (forceChannel ch status f s).state.regime = s.regime ∧
    (forceChannel ch status f s).state.temps = s.temps ∧ (forceChannel ch status f s).state.flows = s.flows ∧
    (forceChannel ch status f s).state.delivered = s.delivered ∧ (forceChannel ch status f s).state.zones =
    s.zones ∧ (forceChannel ch status f s).state.shed = s.shed ∧ (forceChannel ch status f s).state.params =
    s.params ∧ (forceChannel ch status f s).state.setup = s.setup ∧ (forceChannel ch status f s).state.ring =
    s.ring ∧ (forceChannel ch status f s).state.resetRecord = s.resetRecord ∧ (forceChannel ch status f
    s).state.hvReady = s.hvReady ∧ (forceChannel ch status f s).state.valveAt = s.valveAt ∧ (forceChannel ch
    status f s).state.pending = s.pending ∧ (forceChannel ch status f s).state.timeBase = s.timeBase := by
  unfold forceChannel; (repeat' split) <;> simp

@[simp] theorem clearvalveCommand_frame (s : State) :
    (clearvalveCommand s).state.demands = s.demands ∧ (clearvalveCommand s).state.age = s.age ∧
    (clearvalveCommand s).state.alloc = s.alloc ∧ (clearvalveCommand s).state.regime = s.regime ∧
    (clearvalveCommand s).state.temps = s.temps ∧ (clearvalveCommand s).state.flows = s.flows ∧
    (clearvalveCommand s).state.delivered = s.delivered ∧ (clearvalveCommand s).state.zones = s.zones ∧
    (clearvalveCommand s).state.shed = s.shed ∧ (clearvalveCommand s).state.pwm = s.pwm ∧ (clearvalveCommand
    s).state.params = s.params ∧ (clearvalveCommand s).state.setup = s.setup ∧ (clearvalveCommand s).state.ring
    = s.ring ∧ (clearvalveCommand s).state.resetRecord = s.resetRecord ∧ (clearvalveCommand s).state.hvReady =
    s.hvReady ∧ (clearvalveCommand s).state.valveAt = s.valveAt ∧ (clearvalveCommand s).state.pending =
    s.pending ∧ (clearvalveCommand s).state.timeBase = s.timeBase := by
  unfold clearvalveCommand; split <;> simp

@[simp] theorem ackCommand_frame (p : Port) (set : Word) (s : State) :
    (ackCommand p set s).state.demands = s.demands ∧ (ackCommand p set s).state.age = s.age ∧ (ackCommand p set
    s).state.alloc = s.alloc ∧ (ackCommand p set s).state.valve = s.valve ∧ (ackCommand p set s).state.regime =
    s.regime ∧ (ackCommand p set s).state.temps = s.temps ∧ (ackCommand p set s).state.flows = s.flows ∧
    (ackCommand p set s).state.delivered = s.delivered ∧ (ackCommand p set s).state.zones = s.zones ∧
    (ackCommand p set s).state.shed = s.shed ∧ (ackCommand p set s).state.pwm = s.pwm ∧ (ackCommand p set
    s).state.params = s.params ∧ (ackCommand p set s).state.setup = s.setup ∧ (ackCommand p set s).state.ring =
    s.ring ∧ (ackCommand p set s).state.resetRecord = s.resetRecord ∧ (ackCommand p set s).state.hvReady =
    s.hvReady ∧ (ackCommand p set s).state.valveAt = s.valveAt ∧ (ackCommand p set s).state.pending = s.pending
    ∧ (ackCommand p set s).state.timeBase = s.timeBase := by
  simp [ackCommand]

@[simp] theorem enableCommand_frame (p : Port) (set : Word) (s : State) :
    (enableCommand p set s).state.demands = s.demands ∧ (enableCommand p set s).state.age = s.age ∧
    (enableCommand p set s).state.alloc = s.alloc ∧ (enableCommand p set s).state.valve = s.valve ∧
    (enableCommand p set s).state.regime = s.regime ∧ (enableCommand p set s).state.temps = s.temps ∧
    (enableCommand p set s).state.flows = s.flows ∧ (enableCommand p set s).state.delivered = s.delivered ∧
    (enableCommand p set s).state.zones = s.zones ∧ (enableCommand p set s).state.shed = s.shed ∧ (enableCommand
    p set s).state.pwm = s.pwm ∧ (enableCommand p set s).state.params = s.params ∧ (enableCommand p set
    s).state.setup = s.setup ∧ (enableCommand p set s).state.ring = s.ring ∧ (enableCommand p set
    s).state.resetRecord = s.resetRecord ∧ (enableCommand p set s).state.hvReady = s.hvReady ∧ (enableCommand p
    set s).state.valveAt = s.valveAt ∧ (enableCommand p set s).state.pending = s.pending ∧ (enableCommand p set
    s).state.timeBase = s.timeBase := by
  simp [enableCommand]

@[simp] theorem nextCommand_frame (p : Port) (s : State) :
    (nextCommand p s).state.demands = s.demands ∧ (nextCommand p s).state.age = s.age ∧ (nextCommand p
    s).state.alloc = s.alloc ∧ (nextCommand p s).state.valve = s.valve ∧ (nextCommand p s).state.regime =
    s.regime ∧ (nextCommand p s).state.temps = s.temps ∧ (nextCommand p s).state.flows = s.flows ∧ (nextCommand
    p s).state.delivered = s.delivered ∧ (nextCommand p s).state.zones = s.zones ∧ (nextCommand p s).state.shed
    = s.shed ∧ (nextCommand p s).state.pwm = s.pwm ∧ (nextCommand p s).state.params = s.params ∧ (nextCommand p
    s).state.setup = s.setup ∧ (nextCommand p s).state.ring = s.ring ∧ (nextCommand p s).state.resetRecord =
    s.resetRecord ∧ (nextCommand p s).state.hvReady = s.hvReady ∧ (nextCommand p s).state.valveAt = s.valveAt ∧
    (nextCommand p s).state.pending = s.pending ∧ (nextCommand p s).state.timeBase = s.timeBase := by
  unfold nextCommand; split <;> simp

/-! ## The regime and the wake -/

theorem State.changeRegime_to (s : State) (r : Regime) : (s.changeRegime r).regime.regime = r := by
  rw [State.changeRegime_regime]
  split
  · assumption
  · rfl

theorem State.resolve_to (s : State) : s.resolve.regime.regime = s.resolvedRegime := State.changeRegime_to ..

/-- A resolution keeps DORMANT, and gives it nowhere else (R81). -/
theorem State.resolvedRegime_dormant_iff (s : State) : s.resolvedRegime = .dormant ↔ s.regime.regime = .dormant := by
  unfold State.resolvedRegime
  by_cases asleep : s.regime.regime = .dormant
  · simp [asleep]
  · rw [if_neg asleep]
    refine iff_of_false ?_ asleep
    split_ifs <;> simp [asleep]

theorem State.resolve_dormant_iff (s : State) : s.resolve.regime.regime = .dormant ↔ s.regime.regime = .dormant := by
  rw [State.resolve_to, State.resolvedRegime_dormant_iff]

theorem State.resolveInRun_dormant_iff (s : State) : s.resolveInRun.regime.regime = .dormant ↔ s.regime.regime = .dormant := by
  unfold State.resolveInRun
  split
  · exact s.resolve_dormant_iff
  · exact Iff.rfl

theorem State.presenceChanged_dormant_iff (s : State) (p : Port) :
    (s.presenceChanged p).regime.regime = .dormant ↔ s.regime.regime = .dormant := by
  unfold State.presenceChanged
  split
  · exact s.resolveInRun_dormant_iff
  · exact Iff.rfl

/-- A wake ends DORMANT (R80). -/
theorem State.wake_awake (s : State) : s.wake.regime.regime ≠ .dormant := by
  unfold State.wake
  split
  · rw [ne_eq, State.resolve_dormant_iff, State.changeRegime_to]
    exact fun h => Regime.noConfusion h
  · assumption

/-- A good frame finds the part awake when its command is executed (R80, R163). -/
theorem State.frameArrives_not_dormant (s : State) (p : Port) (n : Nat) : (s.frameArrives p n).regime.regime ≠ .dormant := by
  have awake := (s.shiftOut p (96 + n)).wake_awake
  unfold State.frameArrives State.restartLink
  dsimp only
  split
  · rw [ne_eq, State.presenceChanged_dormant_iff]
    exact awake
  · exact awake

/-! ## What every step keeps -/

/-- GETP only answers (R155). -/
theorem getpCommand_state (id : Byte) (s : State) : (getpCommand id s).state = s := by
  unfold getpCommand
  split <;> rfl

/-- READ only answers (R174). -/
theorem readCommand_state (p : Port) (cls index : Byte) (s : State) : (readCommand p cls index s).state = s := by
  unfold readCommand
  split <;> rfl

/-- A property of the part that what every frame does, every command, every event, a reset and a tick keep. A POST and a
VOTE come to a part that their frame has woken. -/
structure Kept (P : State → Prop) : Prop where
  pending : ∀ {s} l, P s → P { s with pending := l }
  tick : ∀ {s}, P s → P s.tick
  reset : ∀ {s} r, P s → P (s.resetWith r)
  shiftOut : ∀ {s} p n, P s → P (s.shiftOut p n)
  stage : ∀ {s} p r, P s → P (s.stage p r)
  arrives : ∀ {s} p n, P s → P (s.frameArrives p n)
  post : ∀ {s} p slot sense tier weight asked lease, s.regime.regime ≠ .dormant → P s → P (postCommand p slot sense tier weight asked lease s).state
  renew : ∀ {s} p slots, P s → P (renewCommand p slots s).state
  drop : ∀ {s} p slots, P s → P (dropCommand p slots s).state
  allow : ∀ {s} p value lease, P s → P (allowCommand p value lease s).state
  vote : ∀ {s} p v, s.regime.regime ≠ .dormant → P s → P (voteCommand p v s).state
  setp : ∀ {s} p id first second, P s → P (setpCommand p id first second s).state
  start : ∀ {s} p, P s → P (startCommand p s).state
  unstart : ∀ {s} p, P s → P (unstartCommand p s).state
  force : ∀ {s} ch duty, P s → P (forceCommand ch duty s).state
  forceRelease : ∀ {s} ch, P s → P (forceReleaseCommand ch s).state
  clearvalve : ∀ {s}, P s → P (clearvalveCommand s).state
  next : ∀ {s} p, P s → P (nextCommand p s).state
  ack : ∀ {s} p set, P s → P (ackCommand p set s).state
  enable : ∀ {s} p set, P s → P (enableCommand p set s).state
  leaseExpiry : ∀ {s} z k, P s → P (expireLease s z k)
  cycleExpiry : ∀ {s}, P s → P (expireCycle s)
  allowanceLeaseExpiry : ∀ {s}, P s → P (expireAllowance s)
  dwellExpiry : ∀ {s}, P s → P (expireDwell s)
  travelTimeout : ∀ {s}, P s → P (timeoutTravel s)
  retryAttempt : ∀ {s}, P s → P (retryTravel s)
  valveAtAsserted : ∀ {s}, P s → P (assertValveAt s)
  valveAtDeasserted : ∀ {s}, P s → P (deassertValveAt s)
  hvReadyRise : ∀ {s}, P s → P (riseHvReady s)
  hvReadyFall : ∀ {s}, P s → P (fallHvReady s)
  primeTimerExpiry : ∀ {s}, P s → P (expirePrime s)
  dormantTimerExpiry : ∀ {s}, P s → P (expireDormant s)
  linkTimerExpiry : ∀ {s} p, P s → P (expireLink s p)
  conversion : ∀ {s} ch code, P s → P (convertChannel s ch code)
  holdExpiry : ∀ {s} ch, P s → P (expireHold s ch)
  flowEdge : ∀ {s} l, P s → P (takeEdge s l)
  stallExpiry : ∀ {s} l, P s → P (expireStall s l)
  periodBoundary : ∀ {s} c, P s → P (takeBoundary s c)

section
variable {P : State → Prop} (kept : Kept P)
include kept

/-- A good frame keeps what its command keeps. -/
theorem Kept.goodFrame {s : State} (p : Port) (n : Nat) (echo : Byte) {command : State → Answer}
    (keeps : ∀ {t}, t.regime.regime ≠ .dormant → P t → P (command t).state) (h : P s) : P (goodFrame p n echo command s) :=
  kept.stage p _ (keeps (s.frameArrives_not_dormant p n) (kept.arrives p n h))

/-- Every command's effect keeps the property. -/
theorem Kept.exec {c : Instr} {s t : State} (run : exec c s = .next t) (h : P s) : P t := by
  cases c <;> obtain rfl := Host.Outcome.next.inj run
  case nop p n => exact kept.goodFrame p n _ (fun _ => id) h
  case post p n slot sense tier weight asked lease =>
    exact kept.goodFrame p n _ (kept.post p slot sense tier weight asked lease) h
  case renew p n slots => exact kept.goodFrame p n _ (fun _ => kept.renew p slots) h
  case drop p n slots => exact kept.goodFrame p n _ (fun _ => kept.drop p slots) h
  case allow p n value lease => exact kept.goodFrame p n _ (fun _ => kept.allow p value lease) h
  case vote p n v => exact kept.goodFrame p n _ (kept.vote p v) h
  case setp p n id first second => exact kept.goodFrame p n _ (fun _ => kept.setp p id first second) h
  case getp p n id => exact kept.goodFrame p n _ (fun {t} _ h => (getpCommand_state id t).symm ▸ h) h
  case start p n => exact kept.goodFrame p n _ (fun _ => kept.start p) h
  case unstart p n => exact kept.goodFrame p n _ (fun _ => kept.unstart p) h
  case force p n ch duty => exact kept.goodFrame p n _ (fun _ => kept.force ch duty) h
  case forceRelease p n ch => exact kept.goodFrame p n _ (fun _ => kept.forceRelease ch) h
  case clearvalve p n => exact kept.goodFrame p n _ (fun _ => kept.clearvalve) h
  case read p n cls index => exact kept.goodFrame p n _ (fun {t} _ h => (readCommand_state p cls index t).symm ▸ h) h
  case next p n => exact kept.goodFrame p n _ (fun _ => kept.next p) h
  case ack p n set => exact kept.goodFrame p n _ (fun _ => kept.ack p set) h
  case enable p n set => exact kept.goodFrame p n _ (fun _ => kept.enable p set) h
  case unknown p n code => exact kept.goodFrame p n _ (fun _ => id) h
  case shortFrame p clocks => exact kept.stage p _ (kept.shiftOut p _ h)
  case badCrc p n frame => exact kept.stage p _ (kept.shiftOut p _ h)
  case powerOnReset => exact kept.reset _ h
  case resetLineReset => exact kept.reset _ h
  case supplyDipReset => exact kept.reset _ h
  case leaseExpiry z k => exact kept.leaseExpiry z k h
  case cycleExpiry => exact kept.cycleExpiry h
  case allowanceLeaseExpiry => exact kept.allowanceLeaseExpiry h
  case dwellExpiry => exact kept.dwellExpiry h
  case travelTimeout => exact kept.travelTimeout h
  case retryAttempt => exact kept.retryAttempt h
  case valveAtAsserted => exact kept.valveAtAsserted h
  case valveAtDeasserted => exact kept.valveAtDeasserted h
  case hvReadyRise => exact kept.hvReadyRise h
  case hvReadyFall => exact kept.hvReadyFall h
  case primeTimerExpiry => exact kept.primeTimerExpiry h
  case dormantTimerExpiry => exact kept.dormantTimerExpiry h
  case linkTimerExpiry p => exact kept.linkTimerExpiry p h
  case conversion ch code => exact kept.conversion ch code h
  case holdExpiry ch => exact kept.holdExpiry ch h
  case flowEdge l label => exact kept.flowEdge l h
  case stallExpiry l => exact kept.stallExpiry l h
  case periodBoundary c => exact kept.periodBoundary c h

/-- Every step keeps the property: a tick on an empty queue, the front command's effect otherwise. -/
theorem Kept.step {s t : State} (run : step s = .next t) (h : P s) : P t := by
  unfold Machine.step at run
  split at run
  · obtain rfl := Host.Outcome.next.inj run
    exact kept.tick h
  · exact kept.exec run (kept.pending _ h)

end

end Sys2Proof.Machine
end

section
/-!
PROOFS. What the blocks can do to a link port: notices, which set flags and let the line follow, and nothing else. A port is `Told` by
everything but the frames on it, its link timer, the History Ring, a reset and the passing of time.
-/

namespace Sys2Proof.Machine

/-! ## Ports that are told notices -/

/-- A port with some flags more, ALLOWANCE not among them, and its line following them (R168, R170); or the port as it was. -/
def LinkPort.Told (l m : LinkPort) : Prop :=
  m = l ∨ ∃ f : NoticeSet, f.getLsbD 8 = false ∧ m = l.withFlags (l.flags ||| f)

/-- Every port is as it was but for notices. -/
def State.Told (s t : State) : Prop := ∀ q, (s.port q).Told (t.port q)

theorem LinkPort.Told.trans {l m n : LinkPort} (h : l.Told m) (k : m.Told n) : l.Told n := by
  rcases k with rfl | ⟨g, hg, rfl⟩
  · exact h
  rcases h with rfl | ⟨f, hf, rfl⟩
  · exact .inr ⟨g, hg, rfl⟩
  · refine .inr ⟨f ||| g, by rw [BitVec.getLsbD_or, hf, hg, Bool.or_self], ?_⟩
    simp only [LinkPort.withFlags, BitVec.or_assoc]

theorem State.Told.refl (s : State) : s.Told s := fun _ => .inl rfl

theorem State.Told.trans {s t u : State} (h : s.Told t) (k : t.Told u) : s.Told u := fun q => (h q).trans (k q)

/-- What comes last, first: the states between are then known from it. -/
theorem State.Told.comp {s t u : State} (k : t.Told u) (h : s.Told t) : s.Told u := h.trans k

theorem State.Told.of_ports {s t : State} (h : t.ports = s.ports) : s.Told t := fun q => .inl (State.port_congr h q)

theorem State.told_notify (s : State) {n : Notice} (h : n ≠ .allowance) (p : Port) : s.Told (s.notify n p) := by
  intro q
  rw [State.notify_port]
  split
  · exact .inr ⟨n.mask, by revert h; cases n <;> decide, rfl⟩
  · exact .inl rfl

theorem State.told_notifyAll (s : State) {n : Notice} (h : n ≠ .allowance) : s.Told (s.notifyAll n) :=
  ((s.told_notify h .M).trans (State.told_notify _ h .B)).trans (State.told_notify _ h .C)

/-- A write of other blocks' fields and then a notice to all ports. -/
theorem State.told_notifyAll_of_ports {s t : State} {n : Notice} (h : n ≠ .allowance) (ports : t.ports = s.ports) :
    s.Told (t.notifyAll n) :=
  (State.Told.of_ports ports).trans (t.told_notifyAll h)

/-! ## The Regime Controller's notices -/

theorem State.told_changeRegime (s : State) (r : Regime) : s.Told (s.changeRegime r) := by
  unfold State.changeRegime
  split
  · exact .refl s
  · exact State.told_notifyAll_of_ports (by decide) rfl

theorem State.told_resolve (s : State) : s.Told s.resolve :=
  (State.Told.of_ports (by simp)).trans (s.settleChargePending.told_changeRegime _)

theorem State.told_resolveInRun (s : State) : s.Told s.resolveInRun := by
  unfold State.resolveInRun
  split
  · exact s.told_resolve
  · exact .refl s

theorem State.told_wake (s : State) : s.Told s.wake := by
  unfold State.wake
  split
  · exact (s.told_changeRegime _).trans (State.told_resolve _)
  · exact .refl s

theorem State.told_presenceChanged (s : State) (p : Port) : s.Told (s.presenceChanged p) := by
  unfold State.presenceChanged
  split
  · exact s.told_resolveInRun
  · exact .refl s

theorem State.told_dormantUpkeep (s : State) : s.Told s.dormantUpkeep := .of_ports (by simp)

theorem State.told_regimeRunEntry (s : State) : s.Told s.regimeRunEntry := by
  unfold State.regimeRunEntry
  exact (State.told_dormantUpkeep _).comp <| (State.told_notifyAll _ (by decide)).comp <| (State.told_resolve _).comp <|
    .of_ports rfl

/-! ## The guards' notices -/

theorem State.told_tripAction (s : State) (z : Zone) : s.Told (s.tripAction z) := by
  unfold State.tripAction
  split
  · exact .refl s
  · exact .of_ports (by simp)
  · exact s.told_notifyAll (by decide)

theorem State.told_shedUpkeep (s : State) : s.Told s.shedUpkeep := .of_ports rfl

theorem State.told_tripAwake (s : State) (z : Zone) : s.Told (s.tripAwake z) := by
  unfold State.tripAwake
  exact (State.told_shedUpkeep _).comp <| (State.told_tripAction _ z).comp <| (State.told_notify _ (by decide) _).comp <|
    .of_ports rfl

theorem State.told_trip (s : State) (z : Zone) : s.Told (s.trip z) := by
  unfold State.trip
  split
  · exact ((s.told_changeRegime _).trans (State.told_tripAwake _ z)).trans (State.told_resolve _)
  · exact s.told_tripAwake z

theorem State.told_evaluate (s : State) (z : Zone) : s.Told (s.evaluate z) := by
  unfold State.evaluate
  split
  · exact .refl s
  · split
    · exact .refl s
    · exact s.told_trip z
  · split
    · exact .of_ports (by simp)
    · exact .refl s

theorem State.told_withConditions (s : State) (z : Zone) (c : Conditions) : s.Told (s.withConditions z c) := by
  unfold State.withConditions
  split
  · exact .refl s
  · exact (State.Told.of_ports (by simp)).trans (State.told_evaluate _ z)

theorem State.told_guardWritten (s : State) (z : Zone) (old : GuardAction) : s.Told (s.guardWritten z old) := by
  unfold State.guardWritten
  split
  · exact .refl s
  · split
    · exact .refl s
    · exact s.told_trip z
  · split
    · exact .of_ports (by simp)
    split
    · exact s.told_trip z
    · exact (s.told_trip z).trans (.of_ports (by simp))

theorem State.told_armGuard (s : State) (z : Zone) : s.Told (s.armGuard z) :=
  (State.Told.of_ports (by simp)).trans (State.told_evaluate _ z)

/-! ## The sensing blocks' notices -/

theorem State.told_convertChannel (s : State) (ch : TempCh) (code : BitVec 12) : s.Told (convertChannel s ch code) := by
  unfold convertChannel
  dsimp only
  split
  · exact (State.Told.of_ports (by simp)).trans (State.told_withConditions _ _ _)
  · exact .of_ports (by simp)

theorem State.told_expireHold (s : State) (ch : TempCh) : s.Told (expireHold s ch) := by
  unfold expireHold
  dsimp only
  split
  · split
    · exact (State.Told.of_ports (by simp)).trans (State.told_withConditions _ _ _)
    · exact .of_ports (by simp)
  · exact .refl s

theorem State.told_updateFlow (s : State) (l : Loop) (c : FlowChannel) : s.Told (s.updateFlow l c) := by
  unfold State.updateFlow
  split
  · exact .of_ports (by simp)
  · exact (State.Told.of_ports (by simp)).trans (State.told_withConditions _ _ _)

theorem State.told_expireStall (s : State) (l : Loop) : s.Told (expireStall s l) := by
  unfold expireStall
  split
  · exact s.told_updateFlow l _
  · exact .refl s

theorem State.told_channelsToInit (s : State) : s.Told s.channelsToInit := by
  unfold State.channelsToInit
  exact (((State.Told.of_ports (by rfl)).trans (State.told_withConditions _ .motor _)).trans
    (State.told_withConditions _ .battery _)).trans (State.told_withConditions _ .cabin _)

theorem State.told_judgeLoop (s : State) (l : Loop) (settled : Bool) : s.Told (s.judgeLoop l settled) := by
  unfold State.judgeLoop
  dsimp only
  refine .trans ?_ (State.told_withConditions _ _ _)
  split
  · exact (State.Told.of_ports (by simp)).trans (State.told_notify _ (by decide) _)
  · exact .of_ports (by simp)

/-! ## The Circuit Mode Controller's notices -/

theorem State.told_arrive (s : State) : s.Told s.arrive := State.told_notifyAll_of_ports (by decide) rfl

theorem State.told_arriveAtEntry (s : State) : s.Told s.arriveAtEntry := by
  unfold State.arriveAtEntry
  split
  · exact s.told_arrive
  · exact .refl s

theorem State.told_clearValve (s : State) : s.Told s.clearValve :=
  (State.told_notifyAll_of_ports (by decide) (by simp)).trans (State.told_arriveAtEntry _)

theorem State.told_selectMode (s : State) : s.Told s.selectMode := by
  unfold State.selectMode
  split
  · exact State.told_notifyAll_of_ports (by decide) (by simp)
  · exact .refl s

theorem State.told_timeoutTravel (s : State) : s.Told (timeoutTravel s) := by
  unfold timeoutTravel
  split
  · split
    · exact .of_ports rfl
    · exact State.told_notifyAll_of_ports (by decide) rfl
  · exact .refl s

theorem State.told_retryTravel (s : State) : s.Told (retryTravel s) := by
  unfold retryTravel
  split
  · exact (State.Told.of_ports (by simp)).trans (State.told_arriveAtEntry _)
  · exact .refl s

theorem State.told_assertValveAt (s : State) : s.Told (assertValveAt s) := by
  unfold assertValveAt
  dsimp only
  split
  · exact (State.Told.of_ports rfl).trans (State.told_arrive _)
  · exact .of_ports rfl

theorem State.told_deassertValveAt (s : State) : s.Told (deassertValveAt s) := by
  unfold deassertValveAt
  dsimp only
  split
  · exact State.told_notifyAll_of_ports (by decide) (by simp)
  · exact .of_ports rfl
  · exact .of_ports rfl
  · exact .of_ports rfl

/-! ## The notices of the regime's events -/

theorem State.told_riseHvReady (s : State) : s.Told (riseHvReady s) :=
  (State.told_resolveInRun _).comp <| (State.told_wake _).comp <| .of_ports rfl

theorem State.told_fallHvReady (s : State) : s.Told (fallHvReady s) :=
  (State.Told.of_ports rfl).trans (State.told_resolveInRun _)

theorem State.told_expirePrime (s : State) : s.Told (expirePrime s) := by
  unfold expirePrime
  split
  · split
    · exact (State.Told.of_ports (by simp)).trans (State.told_changeRegime _ _)
    · exact s.told_resolve
  · exact .refl s

theorem State.told_expireDormant (s : State) : s.Told (expireDormant s) := by
  unfold expireDormant
  split
  · exact (s.told_changeRegime _).trans (.of_ports rfl)
  · exact .refl s

theorem State.told_expireLease (s : State) (z : Zone) (k : Fin 4) : s.Told (expireLease s z k) := by
  unfold expireLease
  split
  · exact (State.Told.of_ports (by simp)).trans (State.told_notify _ (by decide) _)
  · exact .refl s

/-! ## The notices of a write-back and of commands -/

theorem State.told_writeBackEntry (s : State) (e : GrantEntry) : s.Told (s.writeBackEntry e) := by
  unfold State.writeBackEntry
  dsimp only
  split
  · exact (State.Told.of_ports (by simp)).trans (State.told_notify _ (by decide) _)
  · exact .of_ports (by simp)

/-- What every step of a fold can do to the ports, the fold can do. -/
theorem State.told_foldl {α : Type} {f : State → α → State} (h : ∀ (s : State) a, s.Told (f s a)) (l : List α) (s : State) :
    s.Told (l.foldl f s) := by
  induction l generalizing s with
  | nil => exact .refl s
  | cons a l ih => exact (h s a).trans (ih _)

theorem State.told_writeBackAll (s : State) (g : GrantSet) : s.Told (s.writeBackAll g) :=
  State.told_foldl (fun t e => t.told_writeBackEntry e) g.entries s

theorem State.told_takeVoteM (s : State) (v : VoteM) : s.Told (s.takeVoteM v) := by
  unfold State.takeVoteM
  dsimp only
  split
  · exact .of_ports rfl
  · exact (State.Told.of_ports rfl).trans (State.told_resolveInRun _)

theorem State.told_takeVoteB (s : State) (v : VoteB) : s.Told (s.takeVoteB v) := by
  unfold State.takeVoteB
  dsimp only
  split
  · exact .of_ports rfl
  · exact (State.Told.of_ports rfl).trans (State.told_resolveInRun _)

theorem State.told_voteCommand (p : Port) (v : Byte) (s : State) : s.Told (voteCommand p v s).state := by
  rcases voteCommand_state p v s with e | ⟨w, e⟩ | ⟨w, e⟩ <;> rw [e]
  · exact .refl s
  · exact s.told_takeVoteM w
  · exact s.told_takeVoteB w

theorem State.told_clearVotes (s : State) : s.Told s.clearVotes := by
  unfold State.clearVotes
  dsimp only
  split
  · exact State.told_notifyAll_of_ports (by decide) rfl
  · exact .of_ports rfl

theorem State.told_writeInSetup (s : State) (q : Param) : s.Told (s.writeInSetup q) := by
  unfold State.writeInSetup
  dsimp only
  refine .trans ?_ (State.told_clearVotes _)
  have channels : s.Told (if q.isConvPt then s.channelsToInit else s) := by
    split
    · exact s.told_channelsToInit
    · exact .refl s
  split
  · exact channels.trans (.of_ports (by simp))
  · exact channels

theorem State.told_writeInRun (s : State) (q : Param) (old : Zone → GuardAction) : s.Told (s.writeInRun q old) := by
  unfold State.writeInRun
  split
  · exact s.told_guardWritten _ _
  · exact .refl s

theorem State.told_takeWrite (s : State) (p : Port) (q : Param) (j : Judged) : s.Told (s.takeWrite p q j) := by
  unfold State.takeWrite
  dsimp only
  split
  · exact (State.Told.of_ports (by simp)).trans (State.told_writeInRun _ _ _)
  · exact (State.Told.of_ports (by simp)).trans (State.told_writeInSetup _ _)

/-- A SETP is refused, or taken as a write of the parameter of its id (R151). -/
theorem setpCommand_state (p : Port) (id : Byte) (first second : Word) (s : State) :
    (setpCommand p id first second s).state = s ∨
      ∃ q j, (q.owner = none ∨ q.owner = some (portZone p)) ∧ (s.running = true → q.row.live = true) ∧
        s.judgeWrite q first second = some j ∧ (setpCommand p id first second s).state = s.takeWrite p q j := by
  unfold setpCommand State.setKnown
  split
  · exact .inl rfl
  next q _ =>
    split
    · exact .inl rfl
    next owned =>
    split
    · exact .inl rfl
    next live =>
    split
    · exact .inl rfl
    next j judged =>
      refine .inr ⟨q, j, ?_, fun run => ?_, judged, rfl⟩
      · cases owner : q.owner <;> simp_all
      · cases row : q.row.live <;> simp_all

theorem State.told_setpCommand (p : Port) (id : Byte) (first second : Word) (s : State) :
    s.Told (setpCommand p id first second s).state := by
  rcases setpCommand_state p id first second s with e | ⟨q, j, _, _, _, e⟩ <;> rw [e]
  · exact .refl s
  · exact s.told_takeWrite p q j

theorem State.told_clearForces (s : State) : s.Told s.clearForces := .of_ports rfl

theorem State.told_allocatorRunEntry (s : State) : s.Told s.allocatorRunEntry := .of_ports rfl

theorem State.told_enterRun (s : State) : s.Told s.enterRun := by
  unfold State.enterRun
  exact (State.told_notifyAll _ (by decide)).comp <| (State.told_clearForces _).comp <| (State.told_armGuard _ _).comp <|
    (State.told_armGuard _ _).comp <| (State.told_armGuard _ _).comp <| (State.told_allocatorRunEntry _).comp <|
    (State.told_regimeRunEntry _).comp <| .of_ports rfl

theorem State.told_validate (s : State) : s.Told s.validate := by
  unfold State.validate
  split
  · exact s.told_enterRun
  · exact State.told_notifyAll_of_ports (by decide) rfl

theorem State.told_addVote (s : State) (p : Port) : s.Told (s.addVote p) := by
  unfold State.addVote
  dsimp only
  split
  · exact (State.Told.of_ports (by simp)).trans (State.told_validate _)
  · exact .of_ports (by simp)

/-- A START is ignored, or adds the port's vote in SETUP (R156). -/
theorem startCommand_state (p : Port) (s : State) :
    (startCommand p s).state = s ∨
      s.running = false ∧ s.startVote p = false ∧ (startCommand p s).state = s.addVote p := by
  unfold startCommand
  dsimp only
  split
  · exact .inl rfl
  · next fresh =>
    rw [not_or, Bool.not_eq_true, Bool.not_eq_true] at fresh
    exact .inr ⟨fresh.1, fresh.2, rfl⟩

theorem State.told_startCommand (p : Port) (s : State) : s.Told (startCommand p s).state := by
  rcases startCommand_state p s with e | ⟨_, _, e⟩ <;> rw [e]
  · exact .refl s
  · exact s.told_addVote p

theorem State.told_clearvalveCommand (s : State) : s.Told (clearvalveCommand s).state := by
  unfold clearvalveCommand
  split
  · exact s.told_clearValve
  · exact .refl s

end Sys2Proof.Machine
end

section
/-!
PROOFS. The link ports, the ring's cursors and the mode valve stay sound at every step, and the ports at every input of their
receivers (R54, R55, R162 to R171, R176).
-/

namespace Sys2Proof.Machine

/-! ## The stages of a cycle -/

/-- A cycle's next period begun and its allowance settled (R22, R45). -/
def State.cycleBegun (s : State) : State := s.nextPeriod.settleAllowance

/-- A cycle at its publication: the standing demands written back, the grant set published (R16, R48). -/
def State.atPublication (s : State) : State :=
  (s.cycleBegun.writeBackAll s.cycleBegun.grantSet).publish s.cycleBegun.grantSet

/-- From the publication to the judgement: the snapshot, the outputs, and mode selection (R49). -/
theorem State.atJudgement_eq (s : State) :
    s.atJudgement =
      ((s.atPublication.appendSnapshot (s.atPublication.snapshotOf s.cycleBegun.grantSet)).publishOutputs
        s.cycleBegun.grantSet).selectMode := rfl

@[simp] theorem State.cycleBegun_frame (s : State) :
    s.cycleBegun.ports = s.ports ∧ s.cycleBegun.demands = s.demands ∧ s.cycleBegun.age = s.age ∧
    s.cycleBegun.valve = s.valve ∧ s.cycleBegun.regime = s.regime ∧ s.cycleBegun.temps = s.temps ∧
    s.cycleBegun.flows = s.flows ∧ s.cycleBegun.delivered = s.delivered ∧ s.cycleBegun.zones = s.zones ∧
    s.cycleBegun.shed = s.shed ∧ s.cycleBegun.pwm = s.pwm ∧ s.cycleBegun.params = s.params ∧ s.cycleBegun.setup
    = s.setup ∧ s.cycleBegun.ring = s.ring ∧ s.cycleBegun.resetRecord = s.resetRecord ∧ s.cycleBegun.hvReady =
    s.hvReady ∧ s.cycleBegun.valveAt = s.valveAt ∧ s.cycleBegun.pending = s.pending ∧ s.cycleBegun.timeBase =
    s.timeBase := by
  simp [State.cycleBegun]

@[simp] theorem State.atPublication_frame (s : State) :
    s.atPublication.age = s.age ∧ s.atPublication.valve = s.valve ∧ s.atPublication.regime = s.regime ∧
    s.atPublication.temps = s.temps ∧ s.atPublication.flows = s.flows ∧ s.atPublication.delivered = s.delivered
    ∧ s.atPublication.zones = s.zones ∧ s.atPublication.shed = s.shed ∧ s.atPublication.pwm = s.pwm ∧
    s.atPublication.params = s.params ∧ s.atPublication.setup = s.setup ∧ s.atPublication.ring = s.ring ∧
    s.atPublication.resetRecord = s.resetRecord ∧ s.atPublication.hvReady = s.hvReady ∧ s.atPublication.valveAt
    = s.valveAt ∧ s.atPublication.pending = s.pending ∧ s.atPublication.timeBase = s.timeBase := by
  simp [State.atPublication]

theorem State.told_publish (s : State) (g : GrantSet) : s.Told (s.publish g) := .of_ports (by simp)

theorem State.told_atPublication (s : State) : s.Told s.atPublication :=
  (State.told_publish _ _).comp <| (State.told_writeBackAll _ _).comp <| .of_ports (by simp)

/-! ## One port of a sound part -/

/-- What `State.PortsOk` says of one port, given the ring. -/
structure LinkPort.Ok (p : Port) (r : Ring) (l : LinkPort) : Prop where
  line : l.attention = lineFor l.flags l.enables
  lostEnabled : l.enables.getLsbD 0 = true
  allowanceOnB : p ≠ .B → l.flags.getLsbD 8 = false
  timedPresent : l.linkTimer.isSome = true → l.presence = .present
  receiving : l.partialBits.length ≤ 7 ∧ l.lastBytes.length = min 12 l.byteCount
  idle : l.selected = false ∨ l.ignored = true → l.byteCount = 0 ∧ l.partialBits = []
  ignoring : l.ignored = true → l.selected = true
  cursor : r.oldest ≤ l.cursor ∧ l.cursor ≤ r.appended + 1

theorem State.portsOk_iff {s : State} :
    s.PortsOk ↔ (∀ p, (s.port p).Ok p s.ring) ∧ s.ring.records.length = min 32 s.ring.appended := by
  constructor
  · intro h
    exact ⟨fun p => ⟨h.line p, h.lostEnabled p, h.allowanceOnB p, h.timedPresent p, h.receiving p, h.idle p, h.ignoring p,
      h.cursors p⟩, h.ringLength⟩
  · rintro ⟨h, ringLength⟩
    exact ⟨fun p => (h p).line, fun p => (h p).lostEnabled, fun p => (h p).allowanceOnB, fun p => (h p).timedPresent,
      fun p => (h p).receiving, fun p => (h p).idle, fun p => (h p).ignoring, ringLength, fun p => (h p).cursor⟩

theorem State.PortsOk.port {s : State} (h : s.PortsOk) (p : Port) : (s.port p).Ok p s.ring := (State.portsOk_iff.mp h).1 p

section
variable {p : Port} {r : Ring} {l : LinkPort} (h : l.Ok p r)
include h

theorem LinkPort.Ok.withFlags {f : NoticeSet} (allowance : p ≠ .B → f.getLsbD 8 = false) : (l.withFlags f).Ok p r :=
  ⟨rfl, h.lostEnabled, allowance, h.timedPresent, h.receiving, h.idle, h.ignoring, h.cursor⟩

theorem LinkPort.Ok.told {m : LinkPort} (told : l.Told m) : m.Ok p r := by
  rcases told with rfl | ⟨f, hf, rfl⟩
  · exact h
  · exact h.withFlags fun other => by rw [BitVec.getLsbD_or, h.allowanceOnB other, hf, Bool.or_self]

/-- What SDO carried and the staged reply are no part of a port's soundness. -/
theorem LinkPort.Ok.reply (sent : List Bool) (staged : Reply) : { l with sent := sent, staged := staged }.Ok p r :=
  ⟨h.line, h.lostEnabled, h.allowanceOnB, h.timedPresent, h.receiving, h.idle, h.ignoring, h.cursor⟩

theorem LinkPort.Ok.linked (timer : Config.Timer) (presence : Presence) (timed : timer.isSome = true → presence = .present) :
    { l with linkTimer := timer, presence := presence }.Ok p r :=
  ⟨h.line, h.lostEnabled, h.allowanceOnB, timed, h.receiving, h.idle, h.ignoring, h.cursor⟩

theorem LinkPort.Ok.read (cursor : Nat) (overrun : Bool) (inside : r.oldest ≤ cursor ∧ cursor ≤ r.appended + 1) :
    { l with cursor := cursor, overrun := overrun }.Ok p r :=
  ⟨h.line, h.lostEnabled, h.allowanceOnB, h.timedPresent, h.receiving, h.idle, h.ignoring, inside⟩

theorem LinkPort.Ok.tick : l.tick.Ok p r :=
  h.linked _ _ fun running => h.timedPresent (by simpa [tickTimer] using running)

/-! ## The receiver -/

theorem LinkPort.Ok.receiverAt (selected : Bool) : (l.receiverAt selected).Ok p r :=
  ⟨h.line, h.lostEnabled, h.allowanceOnB, h.timedPresent, ⟨by simp [LinkPort.receiverAt], by simp [LinkPort.receiverAt]⟩,
    fun _ => ⟨rfl, rfl⟩, fun ignored => by simp [LinkPort.receiverAt] at ignored, h.cursor⟩

theorem LinkPort.Ok.select : l.select.Ok p r := by
  unfold LinkPort.select
  split
  · exact h
  · exact h.receiverAt true

/-- A bit is kept, or completes a byte, which joins the last twelve (R162). -/
theorem LinkPort.Ok.clockIn (sdi : Bool) : (l.clockIn sdi).Ok p r := by
  obtain ⟨bits, bytes⟩ := h.receiving
  unfold LinkPort.clockIn
  split
  · exact h
  next active =>
    rw [not_or, Bool.not_eq_false, Bool.not_eq_true] at active
    have taking : ¬ (l.selected = false ∨ l.ignored = true) := by simp [active]
    split
    · exact ⟨h.line, h.lostEnabled, h.allowanceOnB, h.timedPresent,
        ⟨by simp only [List.length_append, List.length_singleton]; omega, bytes⟩, fun out => absurd out taking, h.ignoring,
        h.cursor⟩
    · exact ⟨h.line, h.lostEnabled, h.allowanceOnB, h.timedPresent,
        ⟨by simp, by simp only [List.length_drop, List.length_append, List.length_singleton]; omega⟩,
        fun out => absurd out taking, h.ignoring, h.cursor⟩

end

/-! ## The ports of a sound part -/

section
variable {s : State} (h : s.PortsOk)
include h

theorem State.PortsOk.told {t : State} (told : s.Told t) (ring : t.ring = s.ring) : t.PortsOk :=
  State.portsOk_iff.mpr ⟨fun p => ring ▸ (h.port p).told (told p), ring ▸ h.ringLength⟩

theorem State.PortsOk.setPort {p : Port} {l : LinkPort} (ok : l.Ok p s.ring) : (s.setPort p l).PortsOk := by
  refine State.portsOk_iff.mpr ⟨fun q => ?_, h.ringLength⟩
  rw [State.port_setPort]
  split
  · next e => exact e ▸ ok
  · exact h.port q

theorem State.PortsOk.shiftOut (p : Port) (n : Nat) : (s.shiftOut p n).PortsOk := h.setPort ((h.port p).reply _ _)

theorem State.PortsOk.stage (p : Port) (r : Reply) : (s.stage p r).PortsOk := h.setPort ((h.port p).reply _ _)

theorem State.PortsOk.restartLink (p : Port) : (s.restartLink p).PortsOk := by
  have linked := h.setPort ((h.port p).linked (some (seconds (s.num .linkTimeout))) .present fun _ => rfl)
  unfold State.restartLink
  split
  · exact linked.told (State.told_presenceChanged _ p) (by simp)
  · exact linked

theorem State.PortsOk.frameArrives (p : Port) (n : Nat) : (s.frameArrives p n).PortsOk :=
  ((h.shiftOut p (96 + n)).told (State.told_wake _) (by simp)).restartLink p

theorem State.PortsOk.ackCommand (p : Port) (set : Word) : (ackCommand p set s).state.PortsOk :=
  h.setPort ((h.port p).withFlags fun other => by
    rw [BitVec.getLsbD_and, (h.port p).allowanceOnB other, Bool.false_and])

theorem State.PortsOk.enableCommand (p : Port) (set : Word) : (enableCommand p set s).state.PortsOk := by
  obtain ⟨_, _, allowanceOnB, timedPresent, receiving, idle, ignoring, cursor⟩ := h.port p
  exact h.setPort ⟨rfl, by simp [LinkPort.withEnables, Notice.mask], allowanceOnB, timedPresent, receiving, idle, ignoring,
    cursor⟩

/-- NEXT moves the cursor past a record that the ring holds, so not past its empty end (R177). -/
theorem State.PortsOk.nextCommand (p : Port) : (nextCommand p s).state.PortsOk := by
  unfold Machine.nextCommand
  split
  · exact h
  next x found =>
    refine h.setPort ((h.port p).read _ _ ?_)
    obtain ⟨oldest, newest⟩ := (h.port p).cursor
    have inside : (s.port p).cursor ≠ s.ring.appended + 1 := fun e => by
      rw [e, Ring.at_emptyEnd h.ring_counted] at found
      cases found
    omega

theorem State.PortsOk.expireAllowance : (expireAllowance s).PortsOk := by
  unfold Machine.expireAllowance
  split
  · have allowed : ({ s with alloc := { s.alloc with inForce := .safe, allowLease := none } } : State).PortsOk :=
      h.congr rfl rfl
    exact allowed.setPort ((allowed.port .B).withFlags fun other => absurd rfl other)
  · exact h

theorem State.PortsOk.expireLink (p : Port) : (expireLink s p).PortsOk := by
  unfold Machine.expireLink
  split
  · have absent := h.setPort ((h.port p).linked none .absent nofun)
    exact absent.told ((State.told_presenceChanged _ p).comp (State.told_notify _ (by decide) p)) (by simp)
  · exact h

/-! ## The ring -/

/-- The record dropped from a full ring takes the cursors that stood on it along (R176). -/
theorem State.PortsOk.appendSnapshot (x : Snapshot) : (s.appendSnapshot x).PortsOk := by
  have length := h.ringLength
  unfold State.appendSnapshot
  split
  next room =>
    refine State.portsOk_iff.mpr ⟨fun p => ?_, by simp only [List.length_append, List.length_singleton]; omega⟩
    obtain ⟨line, lostEnabled, allowanceOnB, timedPresent, receiving, idle, ignoring, cursor⟩ := h.port p
    refine ⟨line, lostEnabled, allowanceOnB, timedPresent, receiving, idle, ignoring,
      (?_ : _ ≤ (s.port p).cursor ∧ (s.port p).cursor ≤ _)⟩
    simp only [Ring.oldest, List.length_append, List.length_singleton] at cursor ⊢
    omega
  next full =>
    refine State.portsOk_iff.mpr
      ⟨fun p => ?_, by simp only [List.length_append, List.length_tail, List.length_singleton]; omega⟩
    obtain ⟨line, lostEnabled, allowanceOnB, timedPresent, receiving, idle, ignoring, cursor⟩ := h.port p
    simp only [State.port, get_mapTable, LinkPort.dropRecord, Ring.oldest] at *
    split
    · refine ⟨line, lostEnabled, allowanceOnB, timedPresent, receiving, idle, ignoring, ?_⟩
      simp only [Ring.oldest, List.length_append, List.length_tail, List.length_singleton]
      omega
    · refine ⟨line, lostEnabled, allowanceOnB, timedPresent, receiving, idle, ignoring, ?_⟩
      simp only [Ring.oldest, List.length_append, List.length_tail, List.length_singleton]
      omega

theorem State.PortsOk.runCycle : s.runCycle.PortsOk := by
  have published : s.atPublication.PortsOk := h.told s.told_atPublication (by simp)
  have appended := published.appendSnapshot (s.atPublication.snapshotOf s.cycleBegun.grantSet)
  rw [State.runCycle_eq_judgeLoops, State.atJudgement_eq]
  refine appended.told ?_ (by simp [State.judgeLoops])
  exact (State.told_judgeLoop _ _ _).comp <| (State.told_judgeLoop _ _ _).comp <| (State.told_selectMode _).comp <|
    .of_ports (by simp)

theorem State.PortsOk.expireCycle : (expireCycle s).PortsOk := by
  unfold Machine.expireCycle
  split
  · exact h.runCycle
  · exact h

/-! ## Time -/

theorem State.PortsOk.tick : s.tick.PortsOk := by
  refine State.portsOk_iff.mpr ⟨fun p => ?_, h.ringLength⟩
  have ticked : s.tick.port p = (s.port p).tick := get_mapTable _ _ _
  rw [ticked]
  exact (h.port p).tick

end

/-! ## Resets -/

theorem LinkPort.initial_ok (p : Port) (r : ResetRecord) (selected : Bool) :
    (LinkPort.initial r selected).Ok p { records := [], appended := 0 } :=
  ⟨by simp [LinkPort.initial, lineFor], by simp [LinkPort.initial], fun _ => by simp [LinkPort.initial], nofun,
    by simp [LinkPort.initial], fun _ => by simp [LinkPort.initial], fun e => e, by simp [LinkPort.initial, Ring.oldest]⟩

theorem State.afterReset_port (r : ResetRecord) (hv va : Bool) (sel : Vector Bool 3) (l : List Instr) (n : Nat) (p : Port) :
    (State.afterReset r hv va sel l n).port p = LinkPort.initial r (sel.get (portIx p)) := by cases p <;> rfl

theorem State.afterReset_portsOk (r : ResetRecord) (hv va : Bool) (sel : Vector Bool 3) (l : List Instr) (n : Nat) :
    (State.afterReset r hv va sel l n).PortsOk :=
  State.portsOk_iff.mpr ⟨fun p => by rw [State.afterReset_port]; exact LinkPort.initial_ok p r _, rfl⟩

theorem State.resetWith_portsOk (s : State) (r : ResetRecord) : (s.resetWith r).PortsOk :=
  (State.afterReset_portsOk ..).told (State.told_arriveAtEntry _) (by simp [State.resetWith])

/-- What every frame, command, event, reset and tick keeps of the ports. -/
theorem portsOk_kept : Kept State.PortsOk where
  pending _ h := h.congr rfl rfl
  tick h := h.tick
  reset r _ := State.resetWith_portsOk _ r
  shiftOut p n h := h.shiftOut p n
  stage p r h := h.stage p r
  arrives p n h := h.frameArrives p n
  post _ _ _ _ _ _ _ _ h := h.congr (by simp) (by simp)
  renew _ _ h := h.congr (by simp) (by simp)
  drop _ _ h := h.congr (by simp) (by simp)
  allow _ _ _ h := h.congr (by simp) (by simp)
  vote p v _ h := h.told (State.told_voteCommand p v _) (by simp)
  setp p id a b h := h.told (State.told_setpCommand p id a b _) (by simp)
  start p h := h.told (State.told_startCommand p _) (by simp)
  unstart _ h := h.congr (by simp) (by simp)
  force _ _ h := h.congr (by simp [forceCommand]) (by simp [forceCommand])
  forceRelease _ h := h.congr (by simp [forceReleaseCommand]) (by simp [forceReleaseCommand])
  clearvalve h := h.told (State.told_clearvalveCommand _) (by simp)
  next p h := h.nextCommand p
  ack p set h := h.ackCommand p set
  enable p set h := h.enableCommand p set
  leaseExpiry z k h := h.told (State.told_expireLease _ z k) (by simp)
  cycleExpiry h := h.expireCycle
  allowanceLeaseExpiry h := h.expireAllowance
  dwellExpiry h := h.congr (by simp) (by simp)
  travelTimeout h := h.told (State.told_timeoutTravel _) (by simp)
  retryAttempt h := h.told (State.told_retryTravel _) (by simp)
  valveAtAsserted h := h.told (State.told_assertValveAt _) (by simp)
  valveAtDeasserted h := h.told (State.told_deassertValveAt _) (by simp)
  hvReadyRise h := h.told (State.told_riseHvReady _) (by simp)
  hvReadyFall h := h.told (State.told_fallHvReady _) (by simp)
  primeTimerExpiry h := h.told (State.told_expirePrime _) (by simp)
  dormantTimerExpiry h := h.told (State.told_expireDormant _) (by simp)
  linkTimerExpiry p h := h.expireLink p
  conversion ch code h := h.told (State.told_convertChannel _ ch code) (by simp)
  holdExpiry ch h := h.told (State.told_expireHold _ ch) (by simp)
  flowEdge l h := h.told (State.told_updateFlow _ l _) (by simp)
  stallExpiry l h := h.told (State.told_expireStall _ l) (by simp)
  periodBoundary _ h := h.congr (by simp) (by simp)

/-! ## The valve -/

/-- An arrival leaves a sound valve, whatever it was before (R63). -/
theorem State.arrive_valveOk (s : State) : s.arrive.ValveOk := by
  constructor <;> simp [State.arrive_valve, Valve.lines]

/-- The beginning of an attempt leaves a sound valve, whatever it was before (R62, R64). -/
theorem State.beginTravel_valveOk (s : State) (m n : Mode) {k : Nat} (first : 1 ≤ k) (last : k ≤ 3) :
    (s.beginTravel m n k).ValveOk := by
  constructor <;> simp [Valve.lines, first, last]

theorem State.ValveOk.notifyAll {s : State} (h : s.ValveOk) (n : Notice) : (s.notifyAll n).ValveOk := h.congr (by simp)

theorem State.ValveOk.arriveAtEntry {s : State} (h : s.ValveOk) : s.arriveAtEntry.ValveOk := by
  unfold State.arriveAtEntry
  split
  · exact s.arrive_valveOk
  · exact h

theorem State.clearValve_valveOk (s : State) : s.clearValve.ValveOk :=
  ((s.beginTravel_valveOk _ _ (by decide) (by decide)).notifyAll _).arriveAtEntry

theorem State.afterReset_valveOk (r : ResetRecord) (hv va : Bool) (sel : Vector Bool 3) (l : List Instr) (n : Nat) :
    (State.afterReset r hv va sel l n).ValveOk := by
  constructor <;> simp [State.afterReset, Valve.lines, modeCode]

section
variable {s : State} (h : s.ValveOk)
include h

theorem State.ValveOk.tick : s.tick.ValveOk := by
  obtain ⟨settled, moving, waiting, locked, timed, lines⟩ := h
  refine ⟨fun e => ?_, fun e => ?_, waiting, fun e => ?_, fun e => ?_, lines⟩
  · obtain ⟨mode, attempt, travel⟩ := settled e
    exact ⟨mode, attempt, by simp [State.tick, State.countDown, travel, tickTimer]⟩
  · obtain ⟨dwell, bounds⟩ := moving e
    exact ⟨by simp [State.tick, State.countDown, dwell, tickTimer], bounds⟩
  · obtain ⟨attempt, travel⟩ := locked e
    exact ⟨attempt, by simp [State.tick, State.countDown, travel, tickTimer]⟩
  · simpa [State.tick, State.countDown, tickTimer] using timed e

/-- RETRY_WAIT after attempts 1 and 2, LOCKED after attempt 3 (R64). -/
theorem State.ValveOk.timeoutTravel : (timeoutTravel s).ValveOk := by
  unfold Machine.timeoutTravel
  split
  next out =>
    obtain ⟨dwell, first, last⟩ := h.moving (by simp [out.1])
    split
    · constructor <;> simp [Valve.lines, restCode, dwell, first, last]; omega
    · have third : s.valve.attempt = 3 := by omega
      constructor <;> simp [Valve.lines, restCode, dwell, third]
  · exact h

/-- A retry comes after attempt 1 or 2 (R65). -/
theorem State.ValveOk.retryTravel : (retryTravel s).ValveOk := by
  unfold Machine.retryTravel
  split
  next out =>
    have attempts := h.waiting out.1
    exact (s.beginTravel_valveOk _ _ (by omega) (by omega)).arriveAtEntry
  · exact h

theorem State.ValveOk.expireDwell : (expireDwell s).ValveOk := by
  unfold Machine.expireDwell
  split
  next out =>
    have settled := out.1
    obtain ⟨mode, attempt, travel⟩ := h.settled settled
    have lines := h.lines
    constructor <;> simp_all [Valve.lines]
  · exact h

theorem State.ValveOk.assertValveAt : (assertValveAt s).ValveOk := by
  unfold Machine.assertValveAt
  dsimp only
  split
  · exact State.arrive_valveOk _
  · exact h.congr rfl

theorem State.ValveOk.deassertValveAt : (deassertValveAt s).ValveOk := by
  unfold Machine.deassertValveAt
  dsimp only
  split
  · exact (State.beginTravel_valveOk _ _ _ (by decide) (by decide)).notifyAll _
  next moving =>
    obtain ⟨_, _, waiting, locked, timed, lines⟩ := h
    exact ⟨fun e => absurd (moving.symm.trans e) (by decide), ‹s.valve.state ≠ .settled → _›, waiting, locked, timed, lines⟩
  · exact h.congr rfl
  · exact h.congr rfl

theorem State.ValveOk.clearvalveCommand : (clearvalveCommand s).state.ValveOk := by
  unfold Machine.clearvalveCommand
  split
  · exact s.clearValve_valveOk
  · exact h

theorem State.ValveOk.selectMode : s.selectMode.ValveOk := by
  unfold State.selectMode
  split
  · exact (s.beginTravel_valveOk _ _ (by decide) (by decide)).notifyAll _
  · exact h

theorem State.ValveOk.expireCycle : (expireCycle s).ValveOk := by
  unfold Machine.expireCycle
  split
  · have selected : s.atJudgement.ValveOk := State.ValveOk.selectMode (h.congr (by simp))
    rw [State.runCycle_eq_judgeLoops]
    exact selected.congr (by simp [State.judgeLoops])
  · exact h

end

/-- What every frame, command, event, reset and tick keeps of the mode valve. -/
theorem valveOk_kept : Kept State.ValveOk where
  pending _ h := h.congr rfl
  tick h := h.tick
  reset _ _ := (State.afterReset_valveOk ..).arriveAtEntry
  shiftOut _ _ h := h.congr (by simp)
  stage _ _ h := h.congr (by simp)
  arrives _ _ h := h.congr (by simp)
  post _ _ _ _ _ _ _ _ h := h.congr (by simp)
  renew _ _ h := h.congr (by simp)
  drop _ _ h := h.congr (by simp)
  allow _ _ _ h := h.congr (by simp)
  vote _ _ _ h := h.congr (by simp)
  setp _ _ _ _ h := h.congr (by simp)
  start _ h := h.congr (by simp)
  unstart _ h := h.congr (by simp)
  force _ _ h := h.congr (by simp [forceCommand])
  forceRelease _ h := h.congr (by simp [forceReleaseCommand])
  clearvalve h := h.clearvalveCommand
  next _ h := h.congr (by simp)
  ack _ _ h := h.congr (by simp)
  enable _ _ h := h.congr (by simp)
  leaseExpiry _ _ h := h.congr (by simp)
  cycleExpiry h := h.expireCycle
  allowanceLeaseExpiry h := h.congr (by simp)
  dwellExpiry h := h.expireDwell
  travelTimeout h := h.timeoutTravel
  retryAttempt h := h.retryTravel
  valveAtAsserted h := h.assertValveAt
  valveAtDeasserted h := h.deassertValveAt
  hvReadyRise h := h.congr (by simp)
  hvReadyFall h := h.congr (by simp)
  primeTimerExpiry h := h.congr (by simp)
  dormantTimerExpiry h := h.congr (by simp)
  linkTimerExpiry _ h := h.congr (by simp)
  conversion _ _ h := h.congr (by simp)
  holdExpiry _ h := h.congr (by simp)
  flowEdge _ h := h.congr (by simp)
  stallExpiry _ h := h.congr (by simp)
  periodBoundary _ h := h.congr (by simp)

/-- Settles O52: what the blocks do to a port is a notice, whose line follows it, and what the port does itself keeps it sound; every
state of the valve is entered with its attempt, timers and lines. -/
theorem stepsKeepPortsAndValveSound : Obligations.StepsKeepPortsAndValveSound := by
  refine ⟨fun s t run => ⟨portsOk_kept.step run, valveOk_kept.step run⟩, fun p sdi s h => ⟨?_, ?_, ?_⟩⟩
  · exact h.setPort (h.port p).select
  · exact h.setPort ((h.port p).clockIn sdi)
  · exact (h.setPort ((h.port p).receiverAt false)).congr rfl rfl

end Sys2Proof.Machine
end

section
/-!
PROOFS. Parameters stay in range and owned at every step, and the sensing channels in their ranges (R88 to R98, R103 to R106,
R149 to R153).
-/

namespace Sys2Proof.Machine

/-! ## The values of parameters -/

/-- A default lies in its parameter's range (R149). -/
theorem Param.default_admits (q : Param) : ∀ v, q.row.default = some v → q.row.domain.Admits v 0 := by
  cases q with
  | synthSense z => cases z <;> simp [Param.row, Domain.Admits]
  | _ => simp [Param.row, Domain.Admits]

/-- The ends of a range of numbers stand in order. -/
def Domain.Ordered : Domain → Prop
  | .num lo hi => lo ≤ hi
  | .temp lo hi => lo ≤ hi
  | .convPair | .mapPair | .oneOf _ | .condSet | .condExpect => True

theorem Param.domain_ordered (q : Param) : q.row.domain.Ordered := by
  cases q with
  | synthSense z => cases z <;> trivial
  | _ => simp [Param.row, Domain.Ordered]

theorem clampInt_bounds {lo hi : Int} (h : lo ≤ hi) (v : Int) : lo ≤ clampInt lo hi v ∧ clampInt lo hi v ≤ hi := by
  simp only [clampInt]
  omega

/-- The value of a SETP that is not refused lies in its parameter's range (R152). -/
theorem Param.judge_admits {q : Param} {a b : Word} {j : Judged} (h : q.row.domain.judge a b = some j) :
    q.row.domain.Admits j.value j.second := by
  have ordered := q.domain_ordered
  revert h ordered
  cases q.row.domain <;> intro h ordered <;> simp only [Domain.judge, judgeNumber, judgePair] at h
  case num lo hi =>
    obtain rfl := Option.some.inj h
    obtain ⟨low, high⟩ := clampInt_bounds (Int.ofNat_le.mpr ordered) (a.toNat : Int)
    exact ⟨low, high, rfl⟩
  case temp lo hi =>
    obtain rfl := Option.some.inj h
    obtain ⟨low, high⟩ := clampInt_bounds ordered a.toInt
    exact ⟨low, high, rfl⟩
  case convPair =>
    obtain rfl := Option.some.inj h
    obtain ⟨low, high⟩ := clampInt_bounds (show (0 : Int) ≤ 4095 by decide) (a.toNat : Int)
    obtain ⟨low', high'⟩ := clampInt_bounds (show (-400 : Int) ≤ 1500 by decide) b.toInt
    exact ⟨low, high, low', high'⟩
  case mapPair =>
    obtain rfl := Option.some.inj h
    obtain ⟨low, high⟩ := clampInt_bounds (show (0 : Int) ≤ 2400 by decide) (a.toNat : Int)
    obtain ⟨low', high'⟩ := clampInt_bounds (show (0 : Int) ≤ 1000 by decide) (b.toNat : Int)
    exact ⟨low, high, low', high'⟩
  case oneOf vals =>
    split at h
    · next listed =>
      obtain rfl := Option.some.inj h
      exact ⟨⟨a.toNat, List.contains_iff_mem.mp listed, rfl⟩, rfl⟩
    · cases h
  case condSet =>
    split at h
    · next few =>
      obtain rfl := Option.some.inj h
      exact ⟨Int.natCast_nonneg _, Int.ofNat_lt.mpr few, rfl⟩
    · cases h
  case condExpect =>
    obtain rfl := Option.some.inj h
    refine ⟨Int.natCast_nonneg _, ?_, rfl⟩
    dsimp only
    omega

section
variable {s : State} (h : s.ParamsOk)
include h

/-- A parameter with a default always holds a value of its range (R149, R150). -/
theorem State.ParamsOk.admits {q : Param} {v : Int} (default : q.row.default = some v) :
    q.row.domain.Admits (s.param q).value (s.param q).second := by
  cases written : (s.param q).written
  · rw [h.unwritten q written]
    simp only [ParamEntry.initial, default, Option.getD_some]
    exact q.default_admits v default
  · exact h.written q written

theorem State.ParamsOk.compMin_range : 0 ≤ s.int .compMin ∧ s.int .compMin ≤ 120 := by
  obtain ⟨low, high, _⟩ := h.admits (q := .compMin) rfl
  exact ⟨low, high⟩

/-- What a SETP judges to store lies in the parameter's range, COMP_MIN at or below a written COMP_MAX too (R152, R153). -/
theorem State.ParamsOk.judgeWrite {q : Param} {a b : Word} {j : Judged} (judged : s.judgeWrite q a b = some j) :
    q.row.domain.Admits j.value j.second ∧
      (q = .compMin → (s.param .compMax).written = true → j.value ≤ s.int .compMax) := by
  unfold State.judgeWrite at judged
  split at judged
  · cases judged
  next i own =>
    have admitted := q.judge_admits own
    split at judged
    next lowered =>
      obtain ⟨rfl, written, above⟩ := lowered
      obtain rfl := Option.some.inj judged
      obtain ⟨nonneg, _, _⟩ := h.written .compMax written
      obtain ⟨_, most, second⟩ := admitted
      exact ⟨⟨nonneg, by dsimp only; omega, second⟩, fun _ _ => Int.le_refl _⟩
    next kept =>
      obtain rfl := Option.some.inj judged
      exact ⟨admitted, fun e w => by
        by_contra above
        exact kept ⟨e, w, by omega⟩⟩

/-! ## A write -/

/-- A value of a parameter's range stored by a port that may write it keeps every parameter sound, but for the order of COMP_MIN and
COMP_MAX, which is asked for (R150, R153). -/
theorem State.ParamsOk.storeParam {p : Port} {q : Param} {v w : Int} (admitted : q.row.domain.Admits v w)
    (owned : q.owner = none ∨ q.owner = some (portZone p))
    (order : ((s.storeParam p q v w).param .compMax).written = true →
      (s.storeParam p q v w).int .compMin ≤ (s.storeParam p q v w).int .compMax) : (s.storeParam p q v w).ParamsOk := by
  refine ⟨fun r => ?_, fun r => ?_, fun r => ?_, order⟩ <;> rw [State.storeParam_param] <;> split
  · next e => exact fun _ => e ▸ admitted
  · exact h.written r
  · next e => exact fun _ => ⟨p, rfl, e ▸ owned⟩
  · exact h.writer r
  · nofun
  · exact h.unwritten r

/-- A value judged for a SETP and stored, and COMP_MIN lowered where COMP_MAX comes to stand below it (R153). -/
theorem State.ParamsOk.stored {p : Port} {q : Param} {a b : Word} {j : Judged}
    (owned : q.owner = none ∨ q.owner = some (portZone p)) (judged : s.judgeWrite q a b = some j) :
    ((s.storeParam p q j.value j.second).lowerCompMin p q).ParamsOk := by
  obtain ⟨admitted, belowMax⟩ := h.judgeWrite judged
  have value (r : Param) : (s.storeParam p q j.value j.second).int r = if r = q then j.value else s.int r := by
    rw [State.int, State.storeParam_param, apply_ite ParamEntry.value]
    rfl
  by_cases isMax : q = .compMax
  case neg =>
    have unlowered : (s.storeParam p q j.value j.second).lowerCompMin p q = s.storeParam p q j.value j.second := by
      simp [State.lowerCompMin, isMax]
    rw [unlowered]
    refine h.storeParam admitted owned fun written => ?_
    rw [State.storeParam_param, if_neg (Ne.symm isMax)] at written
    rw [value, value, if_neg (Ne.symm isMax)]
    split
    · next isMin => exact belowMax isMin.symm written
    · exact h.compOrder written
  case pos =>
    subst isMax
    have apart : Param.compMin ≠ .compMax := nofun
    obtain ⟨low, high, _⟩ := admitted
    obtain ⟨minLow, minHigh⟩ := h.compMin_range
    unfold State.lowerCompMin
    rw [value, value, if_pos rfl, if_neg apart]
    split
    next below =>
      have order : ∀ t : State, ((t.storeParam p .compMin j.value 0).int .compMin) = j.value := fun t => by
        simp [State.int, State.storeParam_param]
      refine ⟨fun r => ?_, fun r => ?_, fun r => ?_, fun _ => ?_⟩
      · rw [State.storeParam_param, State.storeParam_param]
        split
        · next e => exact fun _ => e ▸ ⟨low, by dsimp only; omega, rfl⟩
        · split
          · next e => exact fun _ => e ▸ ⟨low, high, ‹_›⟩
          · exact h.written r
      · rw [State.storeParam_param, State.storeParam_param]
        split
        · next e => exact fun _ => ⟨p, rfl, e ▸ .inl rfl⟩
        · split
          · next e => exact fun _ => ⟨p, rfl, e ▸ owned⟩
          · exact h.writer r
      · rw [State.storeParam_param, State.storeParam_param]
        split
        · nofun
        · split
          · nofun
          · exact h.unwritten r
      · rw [order, State.int, State.storeParam_param, if_neg (Ne.symm apart), State.storeParam_param, if_pos rfl]
    next inOrder =>
      refine h.storeParam ⟨low, high, ‹_›⟩ owned fun _ => ?_
      rw [value, value, if_pos rfl, if_neg apart]
      simpa using inOrder

end

/-- A write reaches parameters through the store alone (R153, R154). -/
theorem State.takeWrite_params (s : State) (p : Port) (q : Param) (j : Judged) :
    (s.takeWrite p q j).params = ((s.storeParam p q j.value j.second).lowerCompMin p q).params := by
  unfold State.takeWrite
  dsimp only
  split <;> simp

theorem State.ParamsOk.setpCommand {s : State} (h : s.ParamsOk) (p : Port) (id : Byte) (a b : Word) :
    (setpCommand p id a b s).state.ParamsOk := by
  rcases setpCommand_state p id a b s with e | ⟨q, j, owned, _, judged, e⟩ <;> rw [e]
  · exact h
  · exact (h.stored owned judged).congr (s.takeWrite_params p q j)

theorem State.afterReset_param (r : ResetRecord) (hv va : Bool) (sel : Vector Bool 3) (l : List Instr) (n : Nat) (q : Param) :
    (State.afterReset r hv va sel l n).param q = ParamEntry.initial q := initialParams_get q

theorem State.afterReset_paramsOk (r : ResetRecord) (hv va : Bool) (sel : Vector Bool 3) (l : List Instr) (n : Nat) :
    (State.afterReset r hv va sel l n).ParamsOk := by
  constructor <;> simp [State.afterReset_param, ParamEntry.initial]

@[simp] theorem State.resetWith_params (s : State) (r : ResetRecord) : (s.resetWith r).params = initialParams := by
  simp [State.resetWith, State.afterReset]

/-- What every frame, command, event, reset and tick keeps of the parameters. -/
theorem paramsOk_kept : Kept State.ParamsOk where
  pending _ h := h.congr rfl
  tick h := h.congr rfl
  reset r _ := (State.afterReset_paramsOk r false false (Vector.replicate 3 false) [] 0).congr (by simp [State.afterReset])
  shiftOut _ _ h := h.congr (by simp)
  stage _ _ h := h.congr (by simp)
  arrives _ _ h := h.congr (by simp)
  post _ _ _ _ _ _ _ _ h := h.congr (by simp)
  renew _ _ h := h.congr (by simp)
  drop _ _ h := h.congr (by simp)
  allow _ _ _ h := h.congr (by simp)
  vote _ _ _ h := h.congr (by simp)
  setp p id a b h := h.setpCommand p id a b
  start _ h := h.congr (by simp)
  unstart _ h := h.congr (by simp)
  force _ _ h := h.congr (by simp [forceCommand])
  forceRelease _ h := h.congr (by simp [forceReleaseCommand])
  clearvalve h := h.congr (by simp)
  next _ h := h.congr (by simp)
  ack _ _ h := h.congr (by simp)
  enable _ _ h := h.congr (by simp)
  leaseExpiry _ _ h := h.congr (by simp)
  cycleExpiry h := h.congr (by simp)
  allowanceLeaseExpiry h := h.congr (by simp)
  dwellExpiry h := h.congr (by simp)
  travelTimeout h := h.congr (by simp)
  retryAttempt h := h.congr (by simp)
  valveAtAsserted h := h.congr (by simp)
  valveAtDeasserted h := h.congr (by simp)
  hvReadyRise h := h.congr (by simp)
  hvReadyFall h := h.congr (by simp)
  primeTimerExpiry h := h.congr (by simp)
  dormantTimerExpiry h := h.congr (by simp)
  linkTimerExpiry _ h := h.congr (by simp)
  conversion _ _ h := h.congr (by simp)
  holdExpiry _ h := h.congr (by simp)
  flowEdge _ h := h.congr (by simp)
  stallExpiry _ h := h.congr (by simp)
  periodBoundary _ h := h.congr (by simp)

end Sys2Proof.Machine
end

section
/-!
PROOFS. The sensing channels stay in their ranges at every step: the linear map between two points stays between them, the filter
between the value before and the reading, and an edge takes its period from a reference edge of the past (R88 to R98, R103 to R106).
-/

namespace Sys2Proof.Machine

/-! ## The line between two points -/

/-- A part of a distance, truncated toward zero, lies between nothing and the whole (R91, R137). -/
theorem tdiv_part_bounds (d : Int) {a b : Int} (nonneg : 0 ≤ a) (most : a ≤ b) :
    min 0 d ≤ (d * a).tdiv b ∧ (d * a).tdiv b ≤ max 0 d := by
  obtain rfl | pos : b = 0 ∨ 0 < b := by omega
  · simp
  have part {e : Int} (up : 0 ≤ e) : 0 ≤ (e * a).tdiv b ∧ (e * a).tdiv b ≤ e := by
    rw [Int.tdiv_eq_ediv_of_nonneg (Int.mul_nonneg up nonneg)]
    exact ⟨Int.ediv_nonneg (Int.mul_nonneg up nonneg) pos.le,
      Int.ediv_le_of_le_mul pos (Int.mul_le_mul_of_nonneg_left most up)⟩
  rcases Int.le_total 0 d with up | down
  · obtain ⟨low, high⟩ := part up
    omega
  · obtain ⟨low, high⟩ := part (e := -d) (by omega)
    rw [Int.neg_mul, Int.neg_tdiv] at low high
    omega

/-- The line between two points stays between their ordinates (R91, R137). -/
theorem line_bounds {x0 x1 x : Int} (y0 y1 : Int) (left : x0 ≤ x) (right : x ≤ x1) :
    min y0 y1 ≤ y0 + ((y1 - y0) * (x - x0)).tdiv (x1 - x0) ∧
      y0 + ((y1 - y0) * (x - x0)).tdiv (x1 - x0) ≤ max y0 y1 := by
  obtain ⟨low, high⟩ := tdiv_part_bounds (y1 - y0) (a := x - x0) (b := x1 - x0) (by omega) (by omega)
  omega

/-- An interpolated temperature lies where the table's temperatures lie (R91). -/
theorem interpolate_bounds {c lo hi : Int} : ∀ {pts : List (Int × Int)}, (∀ p ∈ pts, lo ≤ p.2 ∧ p.2 ≤ hi) → pts ≠ [] →
    (pts.headD (0, 0)).1 ≤ c → lo ≤ interpolate c pts ∧ interpolate c pts ≤ hi
  | [], _, some_point, _ => absurd rfl some_point
  | [(_, t0)], inside, _, _ => inside _ (List.mem_singleton.mpr rfl)
  | (c0, t0) :: (c1, t1) :: rest, inside, _, from_first => by
    unfold interpolate
    split
    · next beyond => exact interpolate_bounds (fun p h => inside p (List.mem_cons_of_mem _ h)) (by simp) beyond
    · next before =>
      obtain ⟨low, high⟩ := line_bounds t0 t1 (x0 := c0) (x1 := c1) (x := c) from_first (by omega)
      obtain ⟨low0, high0⟩ := inside (c0, t0) (by simp)
      obtain ⟨low1, high1⟩ := inside (c1, t1) (by simp)
      dsimp only at low0 high0 low1 high1
      omega

/-- The tags of a good conversion (R91, R92). -/
def TempTag.measures (t : TempTag) : Prop := t = .good ∨ t = .clampedLow ∨ t = .clampedHigh

/-- A good conversion reads what the table's temperatures span, and with a tag of its own (R91, R92). -/
theorem mapCode_bounds {c lo hi : Int} {pts : List (Int × Int)} (inside : ∀ p ∈ pts, lo ≤ p.2 ∧ p.2 ≤ hi)
    (some_point : pts ≠ []) : (lo ≤ (mapCode pts c).1 ∧ (mapCode pts c).1 ≤ hi) ∧ (mapCode pts c).2.measures := by
  have first : pts.headD (0, 0) ∈ pts := by
    cases pts with
    | nil => exact absurd rfl some_point
    | cons p rest => exact List.mem_cons_self
  have last : pts.getLastD (0, 0) ∈ pts := by
    rw [List.getLastD_eq_getLast?, List.getLast?_eq_some_getLast some_point]
    exact List.getLast_mem some_point
  unfold mapCode
  dsimp only
  split
  · refine ⟨inside _ first, ?_⟩
    dsimp only
    split <;> simp [TempTag.measures]
  split
  · refine ⟨inside _ last, ?_⟩
    dsimp only
    split <;> simp [TempTag.measures]
  · next from_first _ => exact ⟨interpolate_bounds inside some_point (by omega), .inl rfl⟩

/-- The nearest fraction of a distance is no more than the distance (R93). -/
theorem nearest_part_le (d j : Nat) : (d + 2 ^ j) / 2 ^ (j + 1) ≤ d := by
  refine Nat.lt_succ_iff.mp (Nat.div_lt_of_lt_mul ?_)
  have pos := Nat.two_pow_pos j
  have part : d ≤ 2 ^ j * d := Nat.le_mul_of_pos_left d pos
  calc d + 2 ^ j
    _ < 2 * (2 ^ j * d) + 2 * 2 ^ j := by omega
    _ = 2 ^ (j + 1) * d.succ := by rw [Nat.succ_eq_add_one]; ring

/-- The filter moves from the value before toward the reading and not past it (R93). -/
theorem filterValue_bounds {lo hi v r : Int} (k : Nat) (value : lo ≤ v ∧ v ≤ hi) (reading : lo ≤ r ∧ r ≤ hi) :
    lo ≤ filterValue k v r ∧ filterValue k v r ≤ hi := by
  unfold filterValue
  split
  · exact reading
  next smoothing =>
    obtain ⟨j, rfl⟩ := Nat.exists_eq_succ_of_ne_zero smoothing
    simp only [Nat.succ_eq_add_one, Nat.add_sub_cancel]
    have step := nearest_part_le (r - v).natAbs j
    generalize ((r - v).natAbs + 2 ^ j) / 2 ^ (j + 1) = n at step ⊢
    split <;> omega

/-! ## One temperature channel of a sound part -/

/-- What `State.SensingOk` says of one temperature channel. -/
structure TempChannel.Ok (c : TempChannel) : Prop where
  filtered : -400 ≤ c.filtered ∧ c.filtered ≤ 1500
  reading : -400 ≤ c.lastReading ∧ c.lastReading ≤ 1500
  hold : c.hold.isSome = true ↔ c.tag = .stale
  recover : c.recover ≤ 15 ∧ (c.recover ≠ 0 → c.tag = .stale ∨ c.tag = .blind)
  started : c.tag = .init → c.filtered = 0 ∧ c.lastReading = 0

theorem TempTag.measures.ne {t : TempTag} (h : t.measures) : t ≠ .init ∧ t ≠ .stale ∧ t ≠ .blind := by
  rcases h with rfl | rfl | rfl <;> decide

theorem TempChannel.initial_ok : TempChannel.initial.Ok := by
  constructor <;> simp [TempChannel.initial]

section
variable {c : TempChannel} (h : c.Ok)
include h

theorem TempChannel.Ok.raw (code : BitVec 12) : { c with raw := code }.Ok :=
  ⟨h.filtered, h.reading, h.hold, h.recover, h.started⟩

omit h in
theorem TempChannel.toInit_ok (c : TempChannel) : c.toInit.Ok := TempChannel.initial_ok.raw c.raw

theorem TempChannel.Ok.tick : c.tick.Ok :=
  ⟨h.filtered, h.reading, by simpa [TempChannel.tick, tickTimer] using h.hold, h.recover, h.started⟩

/-- A hold that runs out makes the channel BLIND, value and count kept (R97). -/
theorem TempChannel.Ok.blinded : { c with tag := .blind, hold := none }.Ok :=
  ⟨h.filtered, h.reading, by simp, ⟨h.recover.1, fun _ => .inr rfl⟩, nofun⟩

theorem TempChannel.Ok.faultConversion (holdTime : Nat) : (c.faultConversion holdTime).Ok := by
  have started (holds : Option Nat) (some_hold : holds.isSome = true) :
      { c with tag := .stale, hold := holds, recover := 0 }.Ok :=
    ⟨h.filtered, h.reading, by simp [some_hold], by simp, nofun⟩
  have counted : { c with recover := 0 }.Ok := ⟨h.filtered, h.reading, h.hold, by simp, h.started⟩
  unfold TempChannel.faultConversion
  split
  · exact h
  · exact started _ rfl
  · exact started _ rfl
  · exact started _ rfl
  · exact counted
  · exact counted

section
variable {reading : Int} {tag : TempTag} (inside : -400 ≤ reading ∧ reading ≤ 1500) (measured : tag.measures)
include inside measured

omit h in
theorem TempChannel.restart_ok : (c.restart reading tag).Ok := by
  obtain ⟨notInit, notStale, _⟩ := measured.ne
  exact ⟨inside, inside, by simp [TempChannel.restart, notStale], by simp [TempChannel.restart],
    fun e => absurd e notInit⟩

theorem TempChannel.Ok.goodConversion {recoverCount : Nat} (filterK : Nat) (counts : recoverCount ≤ 15) :
    (c.goodConversion reading tag filterK recoverCount).Ok := by
  obtain ⟨notInit, notStale, _⟩ := measured.ne
  have filtered (steady : c.tag.measures) :
      { c with lastReading := reading, filtered := filterValue filterK c.filtered reading, tag := tag }.Ok := by
    obtain ⟨_, notStale', notBlind'⟩ := steady.ne
    have noHold := mt h.hold.mp notStale'
    refine ⟨filterValue_bounds filterK h.filtered inside, inside, by simpa [notStale] using noHold, ?_,
      fun e => absurd e notInit⟩
    have none_counted : c.recover = 0 := by
      by_contra some_counted
      rcases h.recover.2 some_counted with e | e
      · exact notStale' e
      · exact notBlind' e
    simp [none_counted]
  have counted (lost : c.tag = .stale ∨ c.tag = .blind) : (c.countGood reading tag recoverCount).Ok := by
    unfold TempChannel.countGood
    split
    · exact TempChannel.restart_ok inside measured
    · exact ⟨h.filtered, inside, h.hold, ⟨by dsimp only; omega, fun _ => lost⟩, fun e => by rcases lost with l | l <;> cases l.symm.trans e⟩
  unfold TempChannel.goodConversion
  split
  · exact TempChannel.restart_ok inside measured
  · next e => exact filtered (.inl e)
  · next e => exact filtered (.inr (.inl e))
  · next e => exact filtered (.inr (.inr e))
  · next e => exact counted (.inl e)
  · next e => exact counted (.inr e)

end
end

/-! ## One flow channel of a sound part -/

/-- What `State.SensingOk` says of one flow channel, given the time base and AVG. -/
structure FlowChannel.Ok (now avg : Nat) (c : FlowChannel) : Prop where
  stalled : c.tag = .stall → c.flow = 0
  flowRange : c.flow ≤ 65535
  referenced : c.stall.isSome = c.reference.isSome
  referencePast : ∀ r, c.reference = some r → r ≤ now
  stallWithin : ∀ r left, c.reference = some r → c.stall = some left → 0 < left → now - r + left ≤ 5000000
  periods : c.periods < avg ∧ c.accumulator ≤ 2000000 * c.periods

theorem FlowChannel.initial_ok (now : Nat) {avg : Nat} (some_period : 0 < avg) : FlowChannel.initial.Ok now avg := by
  constructor <;> simp [FlowChannel.initial, some_period]

section
variable {now avg : Nat} {c : FlowChannel} (h : c.Ok now avg)
include h

/-- A microsecond makes the reference older and the stall timer shorter (R104, R106). -/
theorem FlowChannel.Ok.tick : c.tick.Ok (now + 1) avg := by
  refine ⟨h.stalled, h.flowRange, by simpa [FlowChannel.tick, tickTimer] using h.referenced,
    fun r held => Nat.le_succ_of_le (h.referencePast r held), fun r left held running some_left => ?_, h.periods⟩
  obtain ⟨before, stall, rfl⟩ := Option.map_eq_some_iff.mp running
  have past := h.referencePast r held
  have within := h.stallWithin r before held stall
  simp only [Config.tickMicros] at some_left ⊢
  omega

theorem FlowChannel.Ok.averaged {avg' : Nat} (some_period : 0 < avg') : { c with accumulator := 0, periods := 0 }.Ok now avg' :=
  ⟨h.stalled, h.flowRange, h.referenced, h.referencePast, h.stallWithin, some_period, by simp⟩

/-- An edge taken becomes the reference, and the stall timer starts over with at most 5 s (R104). -/
theorem FlowChannel.Ok.edge {left : Nat} (within : left ≤ 5000000) {n a : Nat} (few : n < avg) (sum : a ≤ 2000000 * n) :
    { c with reference := some now, stall := some left, accumulator := a, periods := n }.Ok now avg := by
  refine ⟨h.stalled, h.flowRange, rfl, ?_, ?_, few, sum⟩
  · rintro r ⟨⟩
    exact Nat.le_refl now
  · rintro r left' ⟨⟩ ⟨⟩ _
    omega

omit h in
/-- An average completed gives the flow where K_FLOW is written (R105). -/
theorem FlowChannel.complete_ok (written : Bool) (k : Nat) (edge : { c with accumulator := 0, periods := 0 }.Ok now avg) :
    (c.complete written k avg).Ok now avg := by
  unfold FlowChannel.complete
  dsimp only
  split
  · exact ⟨nofun, Nat.min_le_left .., edge.referenced, edge.referencePast, edge.stallWithin, edge.periods⟩
  · exact edge

end

/-! ## The sensing channels of a sound part -/

theorem State.sensingOk_iff {s : State} :
    s.SensingOk ↔ (∀ c, (s.temp c).Ok) ∧ ∀ l, (s.flow l).Ok s.timeBase (s.num (.avg l)) := by
  constructor
  · intro h
    exact ⟨fun c => ⟨h.filtered c, h.reading c, h.hold c, h.recover c, h.started c⟩,
      fun l => ⟨h.stalled l, h.flowRange l, h.referenced l, h.referencePast l, h.stallWithin l, h.periods l⟩⟩
  · rintro ⟨temps, flows⟩
    exact ⟨fun c => (temps c).filtered, fun c => (temps c).reading, fun c => (temps c).hold, fun c => (temps c).recover,
      fun c => (temps c).started, fun l => (flows l).stalled, fun l => (flows l).flowRange, fun l => (flows l).referenced,
      fun l => (flows l).referencePast, fun l => (flows l).stallWithin, fun l => (flows l).periods⟩

/-- AVG is one of 1, 4 and 16 (R149). -/
theorem State.ParamsOk.avg_pos {s : State} (h : s.ParamsOk) (l : Loop) : 0 < s.num (.avg l) := by
  obtain ⟨⟨n, listed, value⟩, _⟩ := h.admits (q := .avg l) rfl
  rw [State.num, value]
  rcases (by simpa using listed : n = 1 ∨ n = 4 ∨ n = 16) with rfl | rfl | rfl <;> decide

/-- A number parameter with a default, as a count (R149, R150). -/
theorem State.ParamsOk.num_range {s : State} (h : s.ParamsOk) {q : Param} {lo hi : Nat} {v : Int}
    (domain : q.row.domain = .num lo hi) (default : q.row.default = some v) : lo ≤ s.num q ∧ s.num q ≤ hi := by
  have admitted := h.admits default
  rw [domain] at admitted
  obtain ⟨low, high, _⟩ := admitted
  simp only [State.num]
  omega

/-- With the table ready every reading lies in the range of its temperatures (R90, R91, R92). -/
theorem State.ParamsOk.mapCode_bounds {s : State} (params : s.ParamsOk) (ready : s.tableReady = true) (c : Int) :
    (-400 ≤ (mapCode s.convPoints c).1 ∧ (mapCode s.convPoints c).1 ≤ 1500) ∧ (mapCode s.convPoints c).2.measures := by
  obtain ⟨written, _⟩ := s.tableReady_iff.mp ready
  refine Machine.mapCode_bounds (fun p found => ?_) (by simp [State.convPoints])
  obtain ⟨i, _, rfl⟩ := List.mem_map.mp found
  obtain ⟨_, _, low, high⟩ := params.written (.convPt i) (written i)
  exact ⟨low, high⟩

/-! ## What a write reaches -/

theorem State.stored_param_of_ne {s : State} (p : Port) {q r : Param} (j : Judged) (other : r ≠ q) (notMin : r ≠ .compMin) :
    ((s.storeParam p q j.value j.second).lowerCompMin p q).param r = s.param r := by
  rw [State.lowerCompMin_param, if_neg fun e => notMin e.2.2, State.storeParam_param, if_neg other]

theorem State.channelsToInit_temps (s : State) : s.channelsToInit.temps = mapTable TempChannel.toInit s.temps := by
  simp [State.channelsToInit]

theorem State.writeInSetup_temps (s : State) (q : Param) :
    (s.writeInSetup q).temps = if q.isConvPt then mapTable TempChannel.toInit s.temps else s.temps := by
  unfold State.writeInSetup
  dsimp only
  split <;> split <;> simp_all [State.channelsToInit_temps]

theorem Param.avgLoop_eq_some {q : Param} {l : Loop} : q.avgLoop = some l ↔ q = .avg l := by
  cases q <;> simp [Param.avgLoop]

/-- What a write in SETUP leaves of a flow channel: its average cleared if the write was of its AVG (R107). -/
theorem State.writeInSetup_flow (s : State) (q : Param) (l : Loop) :
    (s.writeInSetup q).flow l = if q = .avg l then { s.flow l with accumulator := 0, periods := 0 } else s.flow l := by
  have channels (k : Loop) : (if q.isConvPt then s.channelsToInit else s).flow k = s.flow k :=
    State.flow_congr (by split <;> simp) k
  have voted (t : State) : t.clearVotes.flow l = t.flow l := State.flow_congr (by simp) l
  unfold State.writeInSetup
  dsimp only
  rw [voted]
  simp only [← Param.avgLoop_eq_some]
  split
  next k own =>
    have cleared (t : State) :
        (t.clearAverage k).flow l = if l = k then { t.flow k with accumulator := 0, periods := 0 } else t.flow l :=
      State.flow_setFlow t k l _
    rw [cleared, channels, channels, own]
    by_cases e : l = k
    · rw [e, if_pos rfl, if_pos rfl]
    · rw [if_neg e, if_neg fun f => e (Option.some.inj f).symm]
  next none_own => rw [channels, none_own, if_neg nofun]

/-- What a write leaves of a temperature channel: in SETUP a conversion point returns it to INIT (R90). -/
theorem State.takeWrite_temp (s : State) (p : Port) (q : Param) (j : Judged) (c : TempCh) :
    (s.takeWrite p q j).temp c = if s.running = false ∧ q.isConvPt = true then (s.temp c).toInit else s.temp c := by
  have stored : ((s.storeParam p q j.value j.second).lowerCompMin p q).temps = s.temps := by simp
  unfold State.takeWrite
  dsimp only
  split
  next run => rw [State.temp_congr (State.writeInRun_frame _ _ _).2.2.1, State.temp_congr stored, if_neg (by simp [run])]
  next setup =>
    rw [Bool.not_eq_true] at setup
    simp only [setup, true_and]
    rw [State.temp, State.writeInSetup_temps, stored]
    split
    · exact get_mapTable _ _ _
    · rfl

/-- What a write leaves of a flow channel: in SETUP a write of its AVG clears its average (R107). -/
theorem State.takeWrite_flow (s : State) (p : Port) (q : Param) (j : Judged) (l : Loop) :
    (s.takeWrite p q j).flow l =
      if s.running = false ∧ q = .avg l then { s.flow l with accumulator := 0, periods := 0 } else s.flow l := by
  have stored : ((s.storeParam p q j.value j.second).lowerCompMin p q).flows = s.flows := by simp
  unfold State.takeWrite
  dsimp only
  split
  next run => rw [State.flow_congr (State.writeInRun_frame _ _ _).2.2.2.1, State.flow_congr stored, if_neg (by simp [run])]
  next setup =>
    rw [Bool.not_eq_true] at setup
    simp only [setup, true_and]
    rw [State.writeInSetup_flow, State.flow_congr stored]

section
variable {s : State} (h : s.SensingOk)
include h

theorem State.SensingOk.temp (c : TempCh) : (s.temp c).Ok := (State.sensingOk_iff.mp h).1 c

theorem State.SensingOk.flow (l : Loop) : (s.flow l).Ok s.timeBase (s.num (.avg l)) := (State.sensingOk_iff.mp h).2 l

theorem State.SensingOk.setTemp {c : TempCh} {x : TempChannel} (ok : x.Ok) : (s.setTemp c x).SensingOk := by
  refine State.sensingOk_iff.mpr ⟨fun d => ?_, h.flow⟩
  rw [State.temp_setTemp]
  split
  · exact ok
  · exact h.temp d

theorem State.SensingOk.setFlow {l : Loop} {x : FlowChannel} (ok : x.Ok s.timeBase (s.num (.avg l))) :
    (s.setFlow l x).SensingOk := by
  refine State.sensingOk_iff.mpr ⟨h.temp, fun k => ?_⟩
  rw [State.flow_setFlow]
  split
  · next e => exact e ▸ ok
  · exact h.flow k

theorem State.SensingOk.withConditions (z : Zone) (c : Conditions) : (s.withConditions z c).SensingOk :=
  h.congr (by simp) (by simp) (by simp) (by simp)

theorem State.SensingOk.updateFlow {l : Loop} {c : FlowChannel} (ok : c.Ok s.timeBase (s.num (.avg l))) :
    (s.updateFlow l c).SensingOk := by
  unfold State.updateFlow
  split
  · exact h.setFlow ok
  · exact (h.setFlow ok).withConditions _ _

theorem State.SensingOk.convertedChannel (params : s.ParamsOk) (ch : TempCh) (code : BitVec 12) :
    (s.convertedChannel ch code).Ok := by
  have coded := (h.temp ch).raw code
  unfold State.convertedChannel
  dsimp only
  split
  · exact coded.faultConversion _
  split
  next ready =>
    obtain ⟨inside, measured⟩ := params.mapCode_bounds ready code.toNat
    exact coded.goodConversion inside measured _ (params.num_range (q := .recoverCount) rfl rfl).2
  · exact coded

theorem State.SensingOk.convertChannel (params : s.ParamsOk) (ch : TempCh) (code : BitVec 12) :
    (convertChannel s ch code).SensingOk := by
  have converted := h.setTemp (c := ch) (h.convertedChannel params ch code)
  unfold Machine.convertChannel
  dsimp only
  split
  · exact converted.withConditions _ _
  · exact converted

theorem State.SensingOk.expireHold (ch : TempCh) : (expireHold s ch).SensingOk := by
  unfold Machine.expireHold
  split
  · have blinded := h.setTemp (c := ch) (h.temp ch).blinded
    dsimp only
    split
    · exact blinded.withConditions _ _
    · exact blinded
  · exact h

theorem State.SensingOk.edgeChannel (params : s.ParamsOk) (l : Loop) :
    (s.edgeChannel l).Ok s.timeBase (s.num (.avg l)) := by
  have channel := h.flow l
  obtain ⟨few, sum⟩ := channel.periods
  have within : halfSeconds (s.num (.stallTime l)) ≤ 5000000 := by
    have range := (params.num_range (q := .stallTime l) rfl rfl).2
    simp only [halfSeconds]
    omega
  unfold State.edgeChannel
  dsimp only
  split
  · exact channel.edge within few sum
  next r _ =>
    have added : (s.flow l).accumulator + edgePeriod r s.timeBase ≤ 2000000 * ((s.flow l).periods + 1) := by
      have most : edgePeriod r s.timeBase ≤ 2000000 := Nat.min_le_left ..
      omega
    split
    · exact channel
    split
    · exact FlowChannel.complete_ok _ _ (channel.edge within (Nat.zero_lt_of_lt few) (Nat.le_refl 0))
    · next more => exact channel.edge within (by omega) added

theorem State.SensingOk.expireStall (l : Loop) : (expireStall s l).SensingOk := by
  unfold Machine.expireStall
  split
  · exact h.updateFlow (FlowChannel.initial_ok _ (Nat.zero_lt_of_lt (h.flow l).periods.1))
  · exact h

theorem State.SensingOk.tick : s.tick.SensingOk := by
  refine State.sensingOk_iff.mpr ⟨fun c => ?_, fun l => ?_⟩
  · have ticked : s.tick.temp c = (s.temp c).tick := get_mapTable _ _ _
    rw [ticked]
    exact (h.temp c).tick
  · have ticked : s.tick.flow l = (s.flow l).tick := get_mapTable _ _ _
    rw [ticked]
    exact (h.flow l).tick

/-- A write of AVG, in SETUP alone, clears its average (R107); a conversion point returns the temperatures to INIT (R90). -/
theorem State.SensingOk.takeWrite {p : Port} {q : Param} {j : Judged} (live : s.running = true → q.row.live = true)
    (params : (s.takeWrite p q j).ParamsOk) : (s.takeWrite p q j).SensingOk := by
  refine State.sensingOk_iff.mpr ⟨fun c => ?_, fun l => ?_⟩
  · rw [State.takeWrite_temp]
    split
    · exact TempChannel.toInit_ok _
    · exact h.temp c
  · have time : (s.takeWrite p q j).timeBase = s.timeBase := by simp
    have some_period := params.avg_pos l
    rw [State.takeWrite_flow, time]
    split
    · exact (h.flow l).averaged some_period
    next other =>
      have average : (s.takeWrite p q j).num (.avg l) = s.num (.avg l) := by
        have apart : Param.avg l ≠ q := fun e => by
          cases run : s.running
          · exact other ⟨run, e.symm⟩
          · have locked := live run
            rw [← e] at locked
            cases locked
        simp only [State.num, State.param_congr (s.takeWrite_params p q j), State.stored_param_of_ne p j apart nofun]
      rw [average]
      exact h.flow l

theorem State.SensingOk.setpCommand (params : s.ParamsOk) (p : Port) (id : Byte) (a b : Word) :
    (setpCommand p id a b s).state.SensingOk := by
  rcases setpCommand_state p id a b s with e | ⟨q, j, owned, live, judged, e⟩ <;> rw [e]
  · exact h
  · exact h.takeWrite live ((params.stored owned judged).congr (s.takeWrite_params p q j))

end

theorem State.afterReset_sensingOk (r : ResetRecord) (hv va : Bool) (sel : Vector Bool 3) (l : List Instr) (n : Nat) :
    (State.afterReset r hv va sel l n).SensingOk := by
  refine State.sensingOk_iff.mpr ⟨fun c => ?_, fun k => ?_⟩
  · have initial : (State.afterReset r hv va sel l n).temp c = TempChannel.initial := get_replicate _ _
    rw [initial]
    exact TempChannel.initial_ok
  · have initial : (State.afterReset r hv va sel l n).flow k = FlowChannel.initial := get_replicate _ _
    rw [initial]
    exact FlowChannel.initial_ok _ ((State.afterReset_paramsOk ..).avg_pos k)

theorem State.SensingOk.arriveAtEntry {s : State} (h : s.SensingOk) : s.arriveAtEntry.SensingOk :=
  h.congr (by simp) (by simp) (by simp) (by simp)

theorem State.resetWith_sensingOk (s : State) (r : ResetRecord) : (s.resetWith r).SensingOk :=
  (State.afterReset_sensingOk ..).arriveAtEntry

/-- Both stay where neither sensing channels nor parameters nor the time base are touched. -/
theorem sensing_untouched {s t : State} (h : s.ParamsOk ∧ s.SensingOk)
    (e : t.temps = s.temps ∧ t.flows = s.flows ∧ t.params = s.params ∧ t.timeBase = s.timeBase) :
    t.ParamsOk ∧ t.SensingOk :=
  ⟨h.1.congr e.2.2.1, h.2.congr e.1 e.2.1 e.2.2.1 e.2.2.2⟩

/-- What every frame, command, event, reset and tick keeps of the parameters and the sensing channels. -/
theorem sensingOk_kept : Kept (fun s => s.ParamsOk ∧ s.SensingOk) where
  pending _ h := sensing_untouched h (by simp)
  tick h := ⟨paramsOk_kept.tick h.1, h.2.tick⟩
  reset r h := ⟨paramsOk_kept.reset r h.1, State.resetWith_sensingOk _ r⟩
  shiftOut _ _ h := sensing_untouched h (by simp)
  stage _ _ h := sensing_untouched h (by simp)
  arrives _ _ h := sensing_untouched h (by simp)
  post _ _ _ _ _ _ _ _ h := sensing_untouched h (by simp)
  renew _ _ h := sensing_untouched h (by simp)
  drop _ _ h := sensing_untouched h (by simp)
  allow _ _ _ h := sensing_untouched h (by simp)
  vote _ _ _ h := sensing_untouched h (by simp)
  setp p id a b h := ⟨paramsOk_kept.setp p id a b h.1, h.2.setpCommand h.1 p id a b⟩
  start _ h := sensing_untouched h (by simp)
  unstart _ h := sensing_untouched h (by simp)
  force _ _ h := sensing_untouched h (by simp [forceCommand])
  forceRelease _ h := sensing_untouched h (by simp [forceReleaseCommand])
  clearvalve h := sensing_untouched h (by simp)
  next _ h := sensing_untouched h (by simp)
  ack _ _ h := sensing_untouched h (by simp)
  enable _ _ h := sensing_untouched h (by simp)
  leaseExpiry _ _ h := sensing_untouched h (by simp)
  cycleExpiry h := sensing_untouched h (by simp)
  allowanceLeaseExpiry h := sensing_untouched h (by simp)
  dwellExpiry h := sensing_untouched h (by simp)
  travelTimeout h := sensing_untouched h (by simp)
  retryAttempt h := sensing_untouched h (by simp)
  valveAtAsserted h := sensing_untouched h (by simp)
  valveAtDeasserted h := sensing_untouched h (by simp)
  hvReadyRise h := sensing_untouched h (by simp)
  hvReadyFall h := sensing_untouched h (by simp)
  primeTimerExpiry h := sensing_untouched h (by simp)
  dormantTimerExpiry h := sensing_untouched h (by simp)
  linkTimerExpiry _ h := sensing_untouched h (by simp)
  conversion ch code h := ⟨paramsOk_kept.conversion ch code h.1, h.2.convertChannel h.1 ch code⟩
  holdExpiry ch h := ⟨paramsOk_kept.holdExpiry ch h.1, h.2.expireHold ch⟩
  flowEdge l h := ⟨paramsOk_kept.flowEdge l h.1, h.2.updateFlow (h.2.edgeChannel h.1 l)⟩
  stallExpiry l h := ⟨paramsOk_kept.stallExpiry l h.1, h.2.expireStall l⟩
  periodBoundary _ h := sensing_untouched h (by simp)

/-- Settles O53: a SETP alone writes parameters, with values it has judged, and of the sensing channels each conversion, edge, expiry
and microsecond keeps its own. -/
theorem stepsKeepParametersAndSensingSound : Obligations.StepsKeepParametersAndSensingSound :=
  fun _ _ run params => ⟨paramsOk_kept.step run params, fun sensing => (sensingOk_kept.step run ⟨params, sensing⟩).2⟩

end Sys2Proof.Machine
end

section
/-!
PROOFS. Sharing one pool (R33, R34): what a pass grants, that a tier's passes come to an end, and that higher tiers are served first.
-/

namespace Sys2Proof.Machine

/-! ## Grants -/

/-- Claims granted amounts, each by what it is. -/
def granted (g : Claim → Nat) (cs : List Claim) : List Claim := cs.map (fun c => c.take (g c))

/-- Granted g and then h. -/
def Claim.grantThen (g h : Claim → Nat) (c : Claim) : Nat := g c + h (c.take (g c))

theorem Claim.take_take (c : Claim) (m n : Nat) : (c.take m).take n = c.take (m + n) := by
  simp only [Claim.take, Nat.sub_sub, Nat.add_assoc]

theorem Claim.take_zero (c : Claim) : c.take 0 = c := rfl

theorem granted_granted (g h : Claim → Nat) (cs : List Claim) :
    granted h (granted g cs) = granted (Claim.grantThen g h) cs := by
  simp only [granted, List.map_map, Function.comp_def, Claim.take_take, Claim.grantThen]

theorem granted_zero (cs : List Claim) : granted (fun _ => 0) cs = cs := List.map_id _

/-- Granting to some claims alone. -/
theorem map_take_eq_granted (p : Claim → Bool) (g : Claim → Nat) (cs : List Claim) :
    cs.map (fun c => if p c then c.take (g c) else c) = granted (fun c => if p c then g c else 0) cs := by
  refine List.map_congr_left fun c _ => ?_
  cases own : p c <;> simp [own, Claim.take_zero]

theorem Claim.inTier_eq_true {c : Claim} {t : Tier} : c.inTier t = true ↔ c.tier = t ∧ 0 < c.want := by
  simp [Claim.inTier]

theorem Claim.inTier_eq_false {c : Claim} {t : Tier} : c.inTier t = false ↔ (c.tier = t → c.want = 0) := by
  rw [← Bool.not_eq_true, Claim.inTier_eq_true]
  simp

/-! ## The remainder dealt -/

/-- The slots of the age list that have a claim in a tier's pass, oldest first (R34). -/
def dealOrder (t : Tier) (age : List (Fin 15)) (cs : List Claim) : List (Fin 15) :=
  age.filter (fun i => cs.any (fun c => decide (c.ix = i) && c.inTier t))

/-- What the deal of a pool gives one claim. -/
def dealtTo (t : Tier) (order : List (Fin 15)) (pool : Nat) (c : Claim) : Nat :=
  if c.inTier t = true ∧ c.ix ∈ order.take pool then 1 else 0

theorem mem_dealOrder {t : Tier} {age : List (Fin 15)} {cs : List Claim} {i : Fin 15} :
    i ∈ dealOrder t age cs ↔ i ∈ age ∧ ∃ c ∈ cs, c.ix = i ∧ c.inTier t = true := by
  simp [dealOrder]

/-- A hu to one slot's claim leaves the claims of the other slots in the pass as they were. -/
theorem dealOrder_dealOne {t : Tier} {i : Fin 15} {rest : List (Fin 15)} (cs : List Claim) (once : i ∉ rest) :
    dealOrder t rest (dealOne t i cs) = dealOrder t rest cs := by
  refine List.filter_congr fun j hj => ?_
  have apart : ∀ c : Claim, c.ix = j → ¬ (c.ix = i ∧ c.inTier t = true) := fun c e f => once ((e.symm.trans f.1) ▸ hj)
  rw [dealOne, List.any_map]
  refine congrArg cs.any (funext fun c => ?_)
  rw [Function.comp_apply]
  split
  · next hit =>
    have other : c.ix ≠ j := fun e => apart c e hit
    simp [other]
  · rfl

/-- The deal along the age list, oldest first, one hu to each claim of the pass while the pool lasts (R34). -/
theorem deal_eq (t : Tier) : ∀ {age : List (Fin 15)}, age.Nodup → ∀ (pool : Nat) (cs : List Claim),
    deal t age pool cs = (pool - (dealOrder t age cs).length, granted (dealtTo t (dealOrder t age cs) pool) cs)
  | [], _, pool, cs => by
    have nothing : dealtTo t [] pool = fun _ => 0 := funext fun c => by simp [dealtTo]
    simp [deal, dealOrder, nothing, granted_zero]
  | i :: rest, nodup, pool, cs => by
    obtain ⟨once, rest_nodup⟩ := List.nodup_cons.mp nodup
    unfold deal
    split
    next empty =>
      have nothing : dealtTo t (dealOrder t (i :: rest) cs) 0 = fun _ => 0 := funext fun c => by simp [dealtTo]
      rw [empty, nothing, granted_zero, Nat.zero_sub]
    next left =>
    obtain ⟨p, rfl⟩ := Nat.exists_eq_succ_of_ne_zero left
    split
    next hit =>
      have order : dealOrder t (i :: rest) cs = i :: dealOrder t rest cs := List.filter_cons_of_pos hit
      have first : dealOne t i cs = granted (fun c => if c.ix = i ∧ c.inTier t = true then 1 else 0) cs := by
        rw [dealOne]
        simpa using map_take_eq_granted (fun c => decide (c.ix = i ∧ c.inTier t = true)) (fun _ => 1) cs
      rw [Nat.succ_eq_add_one, Nat.add_sub_cancel, deal_eq t rest_nodup, dealOrder_dealOne cs once, order]
      refine Prod.ext (by simp only [List.length_cons]; omega) ?_
      rw [first, granted_granted]
      refine List.map_congr_left fun c _ => congrArg c.take ?_
      unfold Claim.grantThen dealtTo
      by_cases own : c.ix = i
      · have gone : c.ix ∉ (dealOrder t rest cs).take p := fun h =>
          once (own ▸ (mem_dealOrder.mp (List.mem_of_mem_take h)).1)
        by_cases member : c.inTier t = true
        · have later : (c.take 1).ix ∉ (dealOrder t rest cs).take p := gone
          simp only [member, later, own, and_self, and_false, if_true, if_false, List.take_succ_cons, List.mem_cons, true_or]
        · simp [member, Claim.take_zero]
      · simp [own, Claim.take_zero]
    next miss =>
      have order : dealOrder t (i :: rest) cs = dealOrder t rest cs := List.filter_cons_of_neg miss
      rw [deal_eq t rest_nodup, order]

/-- Where every claim's slot is on the age list, the deal's order lists each member of the pass once. -/
theorem dealOrder_length {t : Tier} {age : List (Fin 15)} {cs : List Claim} (nodup : age.Nodup)
    (once : (cs.map Claim.ix).Nodup) (aged : ∀ c ∈ cs, c.ix ∈ age) :
    (dealOrder t age cs).length = (cs.filter (fun c => c.inTier t)).length := by
  have members : ((cs.filter (fun c => c.inTier t)).map Claim.ix).Nodup :=
    once.sublist (List.filter_sublist.map _)
  have same : (dealOrder t age cs).Perm ((cs.filter (fun c => c.inTier t)).map Claim.ix) := by
    refine (List.perm_ext_iff_of_nodup (nodup.filter _) members).mpr fun i => ?_
    change i ∈ dealOrder t age cs ↔ _
    rw [mem_dealOrder]
    simp only [List.mem_map, List.mem_filter]
    exact ⟨fun ⟨_, c, mem, ix, member⟩ => ⟨c, ⟨mem, member⟩, ix⟩,
      fun ⟨c, ⟨mem, member⟩, ix⟩ => ⟨ix ▸ aged c mem, c, mem, ix, member⟩⟩
  rw [same.length_eq, List.length_map]

/-! ## One pass -/

/-- What one pass grants a claim: its share, or where every share is 0 its part of the deal (R33, R34). -/
def passGrant (t : Tier) (age : List (Fin 15)) (pool : Nat) (cs : List Claim) (c : Claim) : Nat :=
  if 0 < shareSum t pool cs then (if c.inTier t then c.share pool (weightSum t cs) else 0)
  else dealtTo t (dealOrder t age cs) pool c

/-- What one pass takes from the pool. -/
def passSum (t : Tier) (age : List (Fin 15)) (pool : Nat) (cs : List Claim) : Nat :=
  if 0 < shareSum t pool cs then shareSum t pool cs else (dealOrder t age cs).length

/-- A tier has come to its end: nothing is left, or nothing is wanted (R33). -/
def tierDone (t : Tier) (pool : Nat) (cs : List Claim) : Prop := pool = 0 ∨ cs.any (fun c => c.inTier t) = false

theorem passGrant_le_want (t : Tier) (age : List (Fin 15)) (pool : Nat) (cs : List Claim) (c : Claim) :
    passGrant t age pool cs c ≤ c.want := by
  unfold passGrant dealtTo
  split
  · split
    · exact Nat.min_le_left ..
    · exact Nat.zero_le _
  · split
    · next dealt => exact (Claim.inTier_eq_true.mp dealt.1).2
    · exact Nat.zero_le _

theorem passGrant_of_not_inTier {t : Tier} {c : Claim} (h : c.inTier t = false) (age : List (Fin 15)) (pool : Nat)
    (cs : List Claim) : passGrant t age pool cs c = 0 := by
  simp [passGrant, dealtTo, h]

theorem tierPasses_of_done {t : Tier} {pool : Nat} {cs : List Claim} (done : tierDone t pool cs) (age : List (Fin 15))
    (fuel : Nat) : tierPasses t age fuel pool cs = (pool, cs) := by
  cases fuel with
  | zero => rfl
  | succ fuel => exact if_pos done

section
variable {age : List (Fin 15)} (nodup : age.Nodup)
include nodup

theorem tierPasses_succ {t : Tier} {pool : Nat} {cs : List Claim} (more : ¬ tierDone t pool cs) (fuel : Nat) :
    tierPasses t age (fuel + 1) pool cs =
      tierPasses t age fuel (pool - passSum t age pool cs) (granted (passGrant t age pool cs) cs) := by
  have unfinished : ¬ (pool = 0 ∨ cs.any (fun c => c.inTier t) = false) := more
  rw [tierPasses, if_neg unfinished, deal_eq t nodup]
  unfold passSum passGrant
  split
  · rw [grantShares, map_take_eq_granted]
  · rfl

omit nodup in
/-- A pass that is not the last takes something from the pool. -/
theorem passSum_pos {t : Tier} {pool : Nat} {cs : List Claim} (aged : ∀ c ∈ cs, c.ix ∈ age) (more : ¬ tierDone t pool cs) :
    0 < passSum t age pool cs := by
  unfold passSum
  split
  · assumption
  · rw [tierDone, not_or, Bool.not_eq_false, List.any_eq_true] at more
    obtain ⟨_, c, mem, member⟩ := more
    exact List.length_pos_of_mem (mem_dealOrder.mpr ⟨aged c mem, c, mem, rfl, member⟩)

omit nodup in
theorem granted_aged {g : Claim → Nat} {cs : List Claim} (aged : ∀ c ∈ cs, c.ix ∈ age) : ∀ c ∈ granted g cs, c.ix ∈ age := by
  intro c mem
  obtain ⟨d, hd, rfl⟩ := List.mem_map.mp mem
  exact aged d hd

/-- Fuel beyond the pool changes nothing, since every pass takes something. -/
theorem tierPasses_fuel {t : Tier} : ∀ {fuel pool : Nat} {cs : List Claim}, (∀ c ∈ cs, c.ix ∈ age) → pool ≤ fuel →
    tierPasses t age fuel pool cs = tierPasses t age pool pool cs
  | 0, pool, cs, _, enough => by rw [Nat.le_zero.mp enough]
  | fuel + 1, pool, cs, aged, enough => by
    by_cases done : tierDone t pool cs
    · rw [tierPasses_of_done done, tierPasses_of_done done]
    · obtain ⟨p, rfl⟩ := Nat.exists_eq_succ_of_ne_zero fun e => done (.inl e)
      have taken := passSum_pos aged done
      rw [tierPasses_succ nodup done, tierPasses_succ nodup done, tierPasses_fuel (granted_aged aged) (by omega),
        ← tierPasses_fuel (granted_aged aged) (fuel := p) (by omega)]

/-- The law of a pass (R33): a tier that is not done goes on with what the pass leaves. -/
theorem shareTier_pass {t : Tier} {pool : Nat} {cs : List Claim} (aged : ∀ c ∈ cs, c.ix ∈ age)
    (more : ¬ tierDone t pool cs) :
    shareTier t age (pool, cs) =
      shareTier t age (pool - passSum t age pool cs, granted (passGrant t age pool cs) cs) := by
  have taken := passSum_pos aged more
  obtain ⟨p, rfl⟩ := Nat.exists_eq_succ_of_ne_zero fun e => more (.inl e)
  unfold shareTier
  rw [tierPasses_succ nodup more]
  exact tierPasses_fuel nodup (granted_aged aged) (by omega)

omit nodup in
theorem shareTier_of_done {t : Tier} {pool : Nat} {cs : List Claim} (done : tierDone t pool cs) :
    shareTier t age (pool, cs) = (pool, cs) := tierPasses_of_done done age pool

/-! ## One tier -/

/-- What a tier's sharing makes of the claims: each of the tier granted no more than it wants, the others nothing; with something left
of the pool, all of it. -/
theorem shareTier_granted (t : Tier) : ∀ {pool : Nat} {cs : List Claim}, (∀ c ∈ cs, c.ix ∈ age) →
    ∃ g : Claim → Nat, (shareTier t age (pool, cs)).2 = granted g cs ∧ (∀ c, g c ≤ c.want) ∧
      (∀ c, c.tier ≠ t → g c = 0) ∧ (0 < (shareTier t age (pool, cs)).1 → ∀ c ∈ cs, c.tier = t → g c = c.want) := by
  intro pool
  induction pool using Nat.strong_induction_on with
  | _ pool ih =>
    intro cs aged
    by_cases done : tierDone t pool cs
    · refine ⟨fun _ => 0, ?_, fun _ => Nat.zero_le _, fun _ _ => rfl, fun left c mem own => ?_⟩
      · rw [shareTier_of_done done, granted_zero]
      · rw [shareTier_of_done done] at left
        have unwanted := done.resolve_left (Nat.pos_iff_ne_zero.mp left)
        rw [List.any_eq_false] at unwanted
        exact (Claim.inTier_eq_false.mp (by simpa using unwanted c mem) own).symm
    · have taken := passSum_pos aged done
      have some_pool : pool ≠ 0 := fun e => done (.inl e)
      obtain ⟨h, result, within, other, all⟩ := ih (pool - passSum t age pool cs) (by omega)
        (cs := granted (passGrant t age pool cs) cs) (granted_aged aged)
      rw [shareTier_pass nodup aged done]
      refine ⟨Claim.grantThen (passGrant t age pool cs) h, ?_, fun c => ?_, fun c foreign => ?_, fun left c mem own => ?_⟩
      · rw [result, granted_granted]
      · have first := passGrant_le_want t age pool cs c
        have then_ := within (c.take (passGrant t age pool cs c))
        simp only [Claim.grantThen, Claim.take] at then_ ⊢
        omega
      · have outside : c.inTier t = false := Claim.inTier_eq_false.mpr fun e => absurd e foreign
        rw [Claim.grantThen, passGrant_of_not_inTier outside, Nat.zero_add]
        exact other _ foreign
      · have first := passGrant_le_want t age pool cs c
        have rest := all left (c.take (passGrant t age pool cs c)) (List.mem_map.mpr ⟨c, mem, rfl⟩) own
        rw [Claim.grantThen, rest]
        simp only [Claim.take]
        omega

end

/-! ## Any age list -/

/-- Claims granted no more than they want. -/
def GrantedFrom (cs ds : List Claim) : Prop := ∃ g : Claim → Nat, ds = granted g cs ∧ ∀ c, g c ≤ c.want

theorem GrantedFrom.refl (cs : List Claim) : GrantedFrom cs cs := ⟨fun _ => 0, (granted_zero cs).symm, fun _ => Nat.zero_le _⟩

theorem grantThen_le_want {g h : Claim → Nat} (first : ∀ c, g c ≤ c.want) (second : ∀ c, h c ≤ c.want) (c : Claim) :
    Claim.grantThen g h c ≤ c.want := by
  have rest := second (c.take (g c))
  have start := first c
  simp only [Claim.grantThen, Claim.take] at rest ⊢
  omega

theorem GrantedFrom.trans {cs ds es : List Claim} (first : GrantedFrom cs ds) (second : GrantedFrom ds es) :
    GrantedFrom cs es := by
  obtain ⟨g, rfl, g_le⟩ := first
  obtain ⟨h, rfl, h_le⟩ := second
  exact ⟨Claim.grantThen g h, granted_granted g h cs, grantThen_le_want g_le h_le⟩

theorem dealOne_granted (t : Tier) (i : Fin 15) (cs : List Claim) : GrantedFrom cs (dealOne t i cs) := by
  refine ⟨fun c => if decide (c.ix = i ∧ c.inTier t = true) then 1 else 0, ?_, fun c => ?_⟩
  · rw [← map_take_eq_granted (fun c => decide (c.ix = i ∧ c.inTier t = true)) (fun _ => 1)]
    simp [dealOne]
  · dsimp only
    split
    · next hit => exact (Claim.inTier_eq_true.mp (of_decide_eq_true hit).2).2
    · exact Nat.zero_le _

theorem deal_granted (t : Tier) : ∀ (age : List (Fin 15)) (pool : Nat) (cs : List Claim),
    GrantedFrom cs (deal t age pool cs).2
  | [], _, cs => .refl cs
  | i :: rest, pool, cs => by
    unfold deal
    split_ifs
    · exact .refl cs
    · exact (dealOne_granted t i cs).trans (deal_granted t rest ..)
    · exact deal_granted t rest ..

theorem grantShares_granted (t : Tier) (pool : Nat) (cs : List Claim) : GrantedFrom cs (grantShares t pool cs) := by
  refine ⟨_, map_take_eq_granted (fun c => c.inTier t) (fun c => c.share pool (weightSum t cs)) cs, fun c => ?_⟩
  split
  · exact Nat.min_le_left ..
  · exact Nat.zero_le _

theorem tierPasses_granted (t : Tier) (age : List (Fin 15)) : ∀ (fuel pool : Nat) (cs : List Claim),
    GrantedFrom cs (tierPasses t age fuel pool cs).2
  | 0, _, cs => .refl cs
  | fuel + 1, pool, cs => by
    unfold tierPasses
    split_ifs
    · exact .refl cs
    · exact (grantShares_granted t pool cs).trans (tierPasses_granted t age fuel ..)
    · exact (deal_granted t age pool cs).trans (tierPasses_granted t age fuel ..)

theorem shareTier_grantedFrom (t : Tier) (age : List (Fin 15)) (r : Nat × List Claim) :
    GrantedFrom r.2 (shareTier t age r).2 := tierPasses_granted t age r.1 r.1 r.2

/-- Whatever the age list, no claim gets more than it wants (R33). -/
theorem sharePool_grantedFrom (age : List (Fin 15)) (pool : Nat) (cs : List Claim) :
    GrantedFrom cs (sharePool age pool cs).2 :=
  (((shareTier_grantedFrom .protect age (pool, cs)).trans (shareTier_grantedFrom .charge age _)).trans
    (shareTier_grantedFrom .drive age _)).trans (shareTier_grantedFrom .comfort age _)

/-! ## The tiers in turn -/

/-- Tiers that share a pool one after the other. -/
def shareTiers (age : List (Fin 15)) (ts : List Tier) (r : Nat × List Claim) : Nat × List Claim :=
  ts.foldl (fun r t => shareTier t age r) r

/-- The tiers, highest first. -/
def tierOrder : List Tier := [.protect, .charge, .drive, .comfort]

theorem sharePool_eq_shareTiers (age : List (Fin 15)) (pool : Nat) (cs : List Claim) :
    sharePool age pool cs = shareTiers age tierOrder (pool, cs) := rfl

theorem mem_tierOrder (t : Tier) : t ∈ tierOrder := by cases t <;> decide

/-- A tier stands after the higher ones. -/
theorem tierOrder_split (t : Tier) : ∃ higher lower, tierOrder = higher ++ t :: lower ∧ ∀ u ∈ higher, u.rank < t.rank := by
  cases t with
  | protect => exact ⟨[], _, rfl, by decide⟩
  | charge => exact ⟨[.protect], _, rfl, by decide⟩
  | drive => exact ⟨[.protect, .charge], _, rfl, by decide⟩
  | comfort => exact ⟨[.protect, .charge, .drive], _, rfl, by decide⟩

/-- Where no tier of a list has a claim, or nothing is left, they share nothing. -/
theorem shareTiers_of_done {age : List (Fin 15)} {pool : Nat} {cs : List Claim} : ∀ {ts : List Tier},
    (∀ t ∈ ts, tierDone t pool cs) → shareTiers age ts (pool, cs) = (pool, cs)
  | [], _ => rfl
  | t :: ts, done => by
    have rest := shareTiers_of_done (age := age) fun u mem => done u (List.mem_cons_of_mem t mem)
    rw [shareTiers, List.foldl_cons, shareTier_of_done (done t List.mem_cons_self)]
    exact rest

theorem grantThen_of_first {g h : Claim → Nat} (within : ∀ c, h c ≤ c.want) {c : Claim} (met : g c = c.want) :
    Claim.grantThen g h c = c.want := by
  have rest := within (c.take (g c))
  simp only [Claim.grantThen, Claim.take] at rest ⊢
  omega

theorem grantThen_of_second {g h : Claim → Nat} (within : ∀ c, g c ≤ c.want) {c : Claim}
    (met : h (c.take (g c)) = (c.take (g c)).want) : Claim.grantThen g h c = c.want := by
  have first := within c
  rw [Claim.grantThen, met]
  simp only [Claim.take]
  omega

/-- What tiers grant one after the other: none of their claims more than it wants, no claim of another tier anything; everything that
is wanted if something is left, and if a claim of a lower tier gets anything. -/
structure TiersGrant (ts : List Tier) (pool left : Nat) (cs : List Claim) (g : Claim → Nat) : Prop where
  within : ∀ c, g c ≤ c.want
  others : ∀ c, c.tier ∉ ts → g c = 0
  spent : pool = 0 → ∀ c ∈ cs, g c = 0
  met : 0 < left → ∀ c ∈ cs, c.tier ∈ ts → g c = c.want
  ranked : ∀ c ∈ cs, ∀ d ∈ cs, c.tier ∈ ts → c.tier.rank < d.tier.rank → 0 < g d → g c = c.want

theorem shareTiers_granted {age : List (Fin 15)} (nodup : age.Nodup) : ∀ {ts : List Tier}, ts.Pairwise (fun t u => t.rank < u.rank) →
    ∀ (pool : Nat) {cs : List Claim}, (∀ c ∈ cs, c.ix ∈ age) →
      ∃ g, (shareTiers age ts (pool, cs)).2 = granted g cs ∧ TiersGrant ts pool (shareTiers age ts (pool, cs)).1 cs g
  | [], _, pool, cs, _ => by
    refine ⟨fun _ => 0, (granted_zero cs).symm, fun _ => Nat.zero_le _, fun _ _ => rfl, fun _ _ _ => rfl, ?_, ?_⟩
    · exact fun _ _ _ h => absurd h List.not_mem_nil
    · exact fun _ _ _ _ h => absurd h List.not_mem_nil
  | t :: ts, sorted, pool, cs, aged => by
    by_cases empty : pool = 0
    · subst empty
      refine ⟨fun _ => 0, ?_, fun _ => Nat.zero_le _, fun _ _ => rfl, fun _ _ _ => rfl, ?_, ?_⟩
      · rw [shareTiers_of_done fun _ _ => .inl rfl, granted_zero]
      · rw [shareTiers_of_done fun _ _ => .inl rfl]
        exact fun h => absurd h (lt_irrefl 0)
      · exact fun _ _ _ _ _ _ h => absurd h (lt_irrefl 0)
    obtain ⟨before, sorted⟩ := List.pairwise_cons.mp sorted
    obtain ⟨g, result, within, other, met⟩ := shareTier_granted nodup t (pool := pool) aged
    set left := (shareTier t age (pool, cs)).1
    obtain ⟨h, final, rest⟩ := shareTiers_granted nodup sorted left (granted_aged (g := g) aged)
    have turns : shareTiers age (t :: ts) (pool, cs) = shareTiers age ts (left, granted g cs) := by rw [← result]; rfl
    have moved {c : Claim} (mem : c ∈ cs) : c.take (g c) ∈ granted g cs := List.mem_map_of_mem mem
    rw [turns]
    refine ⟨Claim.grantThen g h, by rw [final, granted_granted], grantThen_le_want within rest.within, ?_,
      fun none => absurd none empty, ?_, ?_⟩
    · intro c foreign
      rw [List.mem_cons, not_or] at foreign
      rw [Claim.grantThen, other c foreign.1, Nat.zero_add]
      exact rest.others _ foreign.2
    · intro some_left c mem own
      have first_left : 0 < left := by
        refine Nat.pos_of_ne_zero fun none => ?_
        rw [shareTiers_of_done fun _ _ => .inl none] at some_left
        omega
      obtain own | own := List.mem_cons.mp own
      · exact grantThen_of_first rest.within (met first_left c mem own)
      · exact grantThen_of_second within (rest.met some_left _ (moved mem) own)
    · intro c hc d hd own lower gets
      have d_other : d.tier ≠ t := by
        rintro rfl
        obtain own | own := List.mem_cons.mp own
        · exact absurd (own ▸ lower) (lt_irrefl _)
        · exact absurd (before _ own) (by omega)
      rw [Claim.grantThen, other d d_other, Nat.zero_add] at gets
      obtain own | own := List.mem_cons.mp own
      · refine grantThen_of_first rest.within (met (Nat.pos_of_ne_zero fun none => ?_) c hc own)
        have nothing := rest.spent none _ (moved hd)
        rw [other d d_other] at nothing
        omega
      · refine grantThen_of_second within (rest.ranked _ (moved hc) (d.take 0) ?_ own lower gets)
        simpa [other d d_other] using moved hd

theorem tierOrder_sorted : tierOrder.Pairwise (fun t u => t.rank < u.rank) := by decide

/-- In the highest tier that wants anything, the first pass of the pool is the first thing that the claims get; a pool that it uses up
leaves nothing to give after it. -/
theorem sharePool_first {age : List (Fin 15)} (nodup : age.Nodup) {pool : Nat} {cs : List Claim} (aged : ∀ c ∈ cs, c.ix ∈ age)
    {t : Tier} (top : ∀ d ∈ cs, 0 < d.want → t.rank ≤ d.tier.rank) (more : ¬ tierDone t pool cs) :
    ∃ h : Claim → Nat, (sharePool age pool cs).2 = granted (Claim.grantThen (passGrant t age pool cs) h) cs ∧
      (pool ≤ passSum t age pool cs → ∀ c ∈ cs, h (c.take (passGrant t age pool cs c)) = 0) := by
  obtain ⟨higher, lower, order, above⟩ := tierOrder_split t
  have sorted : (t :: lower).Pairwise (fun t u => t.rank < u.rank) :=
    tierOrder_sorted.sublist (order ▸ List.sublist_append_right ..)
  have skipped : ∀ u ∈ higher, tierDone u pool cs := fun u mem => .inr <| List.any_eq_false.mpr fun c hc member => by
    obtain ⟨own, wants⟩ := Claim.inTier_eq_true.mp member
    have := top c hc wants
    have := above u mem
    rw [own] at *
    omega
  obtain ⟨h, final, rest⟩ := shareTiers_granted nodup sorted (pool - passSum t age pool cs)
    (granted_aged (g := passGrant t age pool cs) aged)
  refine ⟨h, ?_, fun used c mem => rest.spent (by omega) _ (List.mem_map_of_mem mem)⟩
  rw [← granted_granted, ← final, sharePool_eq_shareTiers, order]
  unfold shareTiers
  rw [List.foldl_append]
  change (shareTiers age (t :: lower) (shareTiers age higher (pool, cs))).2 = _
  rw [shareTiers_of_done skipped]
  unfold shareTiers
  rw [List.foldl_cons, List.foldl_cons, shareTier_pass nodup aged more]

/-! ## The laws of sharing -/

theorem tierDone_iff (t : Tier) (pool : Nat) (cs : List Claim) :
    tierDone t pool cs ↔ pool = 0 ∨ cs.filter (fun c => c.inTier t) = [] := by
  rw [tierDone, List.any_eq_false, List.filter_eq_nil_iff]

/-- A claim of the pass stands in the deal's order. -/
theorem mem_dealOrder_self {t : Tier} {age : List (Fin 15)} {cs : List Claim} (aged : ∀ c ∈ cs, c.ix ∈ age) {c : Claim}
    (mem : c ∈ cs) (member : c.inTier t = true) : c.ix ∈ dealOrder t age cs :=
  mem_dealOrder.mpr ⟨aged c mem, c, mem, rfl, member⟩

/-- The deal reaches a claim by its slot's place in the order. -/
theorem dealtTo_eq_place {t : Tier} {age : List (Fin 15)} {cs : List Claim} (aged : ∀ c ∈ cs, c.ix ∈ age) (pool : Nat)
    {c : Claim} (mem : c ∈ cs) (member : c.inTier t = true) :
    dealtTo t (dealOrder t age cs) pool c = if (dealOrder t age cs).idxOf c.ix < pool then 1 else 0 := by
  simp only [dealtTo, member, true_and, List.mem_take_iff_idxOf_lt (mem_dealOrder_self aged mem member)]

/-- The deal's order, from the claims of the pass alone. -/
theorem dealOrder_eq_filter (t : Tier) (age : List (Fin 15)) (cs : List Claim) :
    age.filter (fun i => (cs.filter (fun c => c.inTier t)).any (fun d => d.ix == i)) = dealOrder t age cs := by
  refine List.filter_congr fun i _ => ?_
  rw [List.any_filter]
  exact congrArg cs.any (funext fun c => Bool.and_comm ..)

/-- A pass with some share above 0 grants the shares; any other deals one hu each along the age list (R33, R34). -/
theorem shareTier_law {age : List (Fin 15)} (nodup : age.Nodup) (t : Tier) (pool : Nat) {cs : List Claim}
    (once : (cs.map Claim.ix).Nodup) (aged : ∀ c ∈ cs, c.ix ∈ age) :
    shareTier t age (pool, cs) =
      if pool = 0 ∨ cs.filter (fun c => c.inTier t) = [] then (pool, cs)
      else if 0 < shareSum t pool cs then shareTier t age (pool - shareSum t pool cs, grantShares t pool cs)
      else shareTier t age (pool - (cs.filter (fun c => c.inTier t)).length, cs.map (fun c =>
        if c.inTier t then c.take (if (dealOrder t age cs).idxOf c.ix < pool then 1 else 0) else c)) := by
  by_cases done : tierDone t pool cs
  · rw [shareTier_of_done done, if_pos ((tierDone_iff t pool cs).mp done)]
  rw [if_neg (mt (tierDone_iff t pool cs).mpr done), shareTier_pass nodup aged done]
  unfold passSum passGrant
  split
  · rw [grantShares, map_take_eq_granted]
  · rw [dealOrder_length nodup once aged]
    refine congrArg (fun ds => shareTier t age (_, ds)) (List.map_congr_left fun c mem => ?_)
    split
    next member => exact congrArg c.take (dealtTo_eq_place aged pool mem member)
    next outside => simp [dealtTo, outside, Claim.take_zero]

/-- In the highest tier that wants anything each claim gets its share of the first pass; where every share is 0 and the pool is no
more than one hu for each, it is dealt along the age list (R33, R34). -/
theorem sharePool_top {age : List (Fin 15)} (nodup : age.Nodup) (pool : Nat) {cs : List Claim} (once : (cs.map Claim.ix).Nodup)
    (aged : ∀ c ∈ cs, c.ix ∈ age) (fresh : ∀ c ∈ cs, c.got = 0) :
    List.Forall₂ (fun c d => (∀ e ∈ cs, 0 < e.want → c.tier.rank ≤ e.tier.rank) → 0 < c.want →
        c.share pool (weightSum c.tier cs) ≤ d.got ∧
        ((∀ e ∈ cs, e.inTier c.tier = true → pool * e.weight < weightSum c.tier cs) →
          pool ≤ (cs.filter (fun e => e.inTier c.tier)).length →
          d.got = if (dealOrder c.tier age cs).idxOf c.ix < pool then 1 else 0))
      cs (sharePool age pool cs).2 := by
  obtain ⟨g, shared, -⟩ := sharePool_grantedFrom age pool cs
  rw [shared, granted, List.forall₂_map_right_iff, List.forall₂_same]
  intro c mem top wants
  have same {k : Claim → Nat} (other : (sharePool age pool cs).2 = granted k cs) : (c.take (g c)).got = k c := by
    have taken : c.take (g c) = c.take (k c) := List.map_inj_left.mp (shared.symm.trans other) c mem
    rw [taken, Claim.take_got, fresh c mem, Nat.zero_add]
  have member : c.inTier c.tier = true := Claim.inTier_eq_true.mpr ⟨rfl, wants⟩
  obtain rfl | some_pool := Nat.eq_zero_or_pos pool
  · have none : (sharePool age 0 cs).2 = granted (fun _ => 0) cs := by
      rw [sharePool_eq_shareTiers, shareTiers_of_done fun _ _ => .inl rfl, granted_zero]
    rw [same none]
    simp [Claim.share]
  have more : ¬ tierDone c.tier pool cs := fun done =>
    List.any_eq_false.mp (done.resolve_left (Nat.pos_iff_ne_zero.mp some_pool)) c mem member
  obtain ⟨h, first, last⟩ := sharePool_first nodup aged top more
  rw [same first]
  unfold Claim.grantThen
  constructor
  · refine Nat.le_trans ?_ (Nat.le_add_right _ _)
    unfold passGrant
    split
    · exact le_rfl
    next none =>
      have part : c.share pool (weightSum c.tier cs) ≤ shareSum c.tier pool cs :=
        List.single_le_sum (fun _ _ => Nat.zero_le _) _ (List.mem_map_of_mem (List.mem_filter.mpr ⟨mem, member⟩))
      omega
  · intro light few
    have none : shareSum c.tier pool cs = 0 := List.sum_eq_zero fun n hn => by
      obtain ⟨e, he, rfl⟩ := List.mem_map.mp hn
      obtain ⟨he, own⟩ := List.mem_filter.mp he
      rw [Claim.share, Nat.div_eq_of_lt (light e he own), Nat.min_zero]
    have used : pool ≤ passSum c.tier age pool cs := by
      rw [passSum, none, if_neg (lt_irrefl 0), dealOrder_length nodup once aged]
      exact few
    rw [last used c mem, passGrant, none, if_neg (lt_irrefl 0), Nat.add_zero, dealtTo_eq_place aged pool mem member]

/-- Settles O16. -/
theorem sharingServesHigherTiersFirst : Obligations.SharingServesHigherTiersFirst := by
  intro age pool claims nodup once aged fresh
  obtain ⟨g, result, grants⟩ := shareTiers_granted nodup tierOrder_sorted pool aged
  rw [← sharePool_eq_shareTiers] at result grants
  have shared := sharePool_sharedFrom age pool claims
  refine ⟨?_, ?_, ?_, ?_, ?_, rfl, ?_⟩
  · have none : (claims.map Claim.got).sum = 0 := List.sum_eq_zero (by simpa using fresh)
    simpa [none] using shared.total once
  · rw [result, granted, List.forall₂_map_right_iff, List.forall₂_same]
    intro c mem
    have := grants.within c
    have := fresh c mem
    simp only [Claim.take, true_and]
    omega
  · rw [result]
    intro left d hd
    obtain ⟨c, mem, rfl⟩ := List.mem_map.mp hd
    have := grants.met left c mem (mem_tierOrder _)
    simp only [Claim.take]
    omega
  · rw [result]
    intro c' hc' d' hd' lower gets
    obtain ⟨c, hc, rfl⟩ := List.mem_map.mp hc'
    obtain ⟨d, hd, rfl⟩ := List.mem_map.mp hd'
    rw [Claim.take_got, fresh d hd, Nat.zero_add] at gets
    have := grants.ranked c hc d hd (mem_tierOrder _) lower gets
    simp only [Claim.take]
    omega
  · refine (sharePool_top nodup pool once aged fresh).imp fun c d law top wants => ?_
    obtain ⟨first, light⟩ := law (by simpa [Nat.pos_iff_ne_zero, or_iff_not_imp_left] using top) wants
    refine ⟨first, fun every few => ?_⟩
    rw [light (fun e he own => every e (List.mem_filter.mpr ⟨he, own⟩)) few, ← dealOrder_eq_filter]
    rfl
  · intro t left now slots
    have now_aged : ∀ c ∈ now, c.ix ∈ age := fun c mem => by
      have slot : c.ix ∈ claims.map Claim.ix := slots ▸ List.mem_map_of_mem mem
      obtain ⟨d, hd, same⟩ := List.mem_map.mp slot
      exact same ▸ aged d hd
    have law := shareTier_law nodup t left (slots ▸ once) now_aged
    rw [← dealOrder_eq_filter] at law
    exact law

end Sys2Proof.Machine
end

section
/-!
PROOFS. The resources in turn (R36 to R41): what a resource's turn makes of each demand, and the grant set made of them.
-/

namespace Sys2Proof.Machine

/-! ## One resource's turn -/

section
variable (age : List (Fin 15)) (pool : Nat) (serves : Claimant → Bool) {record : Claimant → Nat → Claimant}
  (es : List Claimant)

/-- What a demand may claim at a resource: what it lacks, if the resource serves it and it is not held (R25, R26). -/
def Claimant.claimable (serves : Bool) (e : Claimant) : Nat := if serves && !e.held then e.residual else 0

/-- A turn grants each demand that the resource serves no more than it may claim. -/
theorem runStage_eq_map (record : Claimant → Nat → Claimant) : ∃ k : Claimant → Nat, (∀ e, k e ≤ e.claimable (serves e)) ∧
    runStage age pool serves record es = es.map (fun e => if serves e then record e (k e) else e) ∧
      (sharePool age pool (claimsOf serves es)).2.map Claim.got = es.map k := by
  obtain ⟨g, shared, within⟩ := sharePool_grantedFrom age pool (claimsOf serves es)
  have granted_claims : granted g (claimsOf serves es) = es.map (fun e => (e.claim (serves e)).take (g (e.claim (serves e)))) := by
    rw [granted, claimsOf, List.map_map]
    rfl
  have got (e : Claimant) (n : Nat) : ((e.claim (serves e)).take n).got = n := Nat.zero_add n
  refine ⟨fun e => g (e.claim (serves e)), fun e => within _, ?_, ?_⟩
  · rw [runStage_eq, shared, granted_claims, List.zipWith_map_right, List.zipWith_self]
    simp only [got]
  · rw [shared, granted_claims, List.map_map]
    exact List.map_congr_left fun e _ => got e _

/-- What every demand has before a turn and every grant of the turn keeps, every demand has after it. -/
theorem runStage_forall {P : Claimant → Prop} (before : ∀ e ∈ es, P e)
    (keeps : ∀ e g, P e → serves e = true → g ≤ e.claimable true → P (record e g)) :
    ∀ e ∈ runStage age pool serves record es, P e := by
  obtain ⟨k, within, result, -⟩ := runStage_eq_map age pool serves es record
  rw [result]
  intro d hd
  obtain ⟨e, mem, rfl⟩ := List.mem_map.mp hd
  cases served : serves e with
  | false => exact before e mem
  | true => exact keeps e _ (before e mem) served (served ▸ within e)

/-- What no grant of a turn writes stands as before it. -/
theorem runStage_map_unwritten {β : Type} {f : Claimant → β} (keeps : ∀ e g, serves e = true → f (record e g) = f e) :
    (runStage age pool serves record es).map f = es.map f := by
  obtain ⟨k, -, result, -⟩ := runStage_eq_map age pool serves es record
  rw [result, List.map_map]
  refine List.map_congr_left fun e _ => ?_
  cases served : serves e with
  | false => simp [served]
  | true => simpa [served] using keeps e (k e) served

/-- The amount that a turn writes is, demand by demand, what the claims got. -/
theorem runStage_amounts {f : Claimant → Nat} (writes : ∀ e g, serves e = true → f (record e g) = g)
    (before : ∀ e ∈ es, serves e = false → f e = 0) :
    (runStage age pool serves record es).map f = (sharePool age pool (claimsOf serves es)).2.map Claim.got := by
  obtain ⟨k, within, result, got⟩ := runStage_eq_map age pool serves es record
  rw [result, got, List.map_map]
  refine List.map_congr_left fun e mem => ?_
  have most := within e
  cases served : serves e with
  | false =>
    have none : k e = 0 := by simpa [Claimant.claimable, served] using most
    simp [served, before e mem served, none]
  | true => simp [served, writes]

end

/-! ## What each demand of a cycle is -/

/-- A demand as a cycle sees it (R23, R26), granted no more than it asked for, and nothing while it is held. -/
structure Claimant.Of (s : State) (e : Claimant) : Prop where
  sense : e.sense = (s.demand e.ix).sense
  tier : e.tier = (s.demand e.ix).tier
  weight : e.weight = (s.demand e.ix).effectiveWeight
  asked : e.asked = (s.demand e.ix).asked
  held : e.held = s.isHeld e.ix
  within : e.total ≤ e.asked
  heldNone : e.held = true → e.total = 0

section
variable {s : State}

theorem State.claimants_of (s : State) : ∀ e ∈ s.claimants, e.Of s := by
  intro e mem
  obtain ⟨i, -, rfl⟩ := List.mem_map.mp mem
  exact ⟨rfl, rfl, rfl, rfl, rfl, Nat.zero_le _, fun _ => rfl⟩

/-- A grant of no more than a demand may claim keeps what the cycle knows of it. -/
theorem Claimant.Of.granted {e d : Claimant} {g : Nat} (h : e.Of s) (least : g ≤ e.claimable true)
    (same : d.ix = e.ix ∧ d.sense = e.sense ∧ d.tier = e.tier ∧ d.weight = e.weight ∧ d.asked = e.asked ∧ d.held = e.held)
    (more : d.total ≤ e.total + g) : d.Of s := by
  obtain ⟨ix, sense, tier, weight, asked, held⟩ := same
  refine ⟨by rw [sense, ix, h.sense], by rw [tier, ix, h.tier], by rw [weight, ix, h.weight], by rw [asked, ix, h.asked],
    by rw [held, ix, h.held], ?_, fun on => ?_⟩
  · have := h.within
    have : e.claimable true ≤ e.residual := by unfold Claimant.claimable; split <;> omega
    simp only [Claimant.residual] at this
    omega
  · rw [held] at on
    have none : e.claimable true = 0 := by simp [Claimant.claimable, on]
    have := h.heldNone on
    omega

theorem Claimant.Of.withScav {e : Claimant} {g : Nat} (h : e.Of s) (least : g ≤ e.claimable true) : (e.withScav g).Of s :=
  h.granted least ⟨rfl, rfl, rfl, rfl, rfl, rfl⟩ (by simp only [Claimant.total, Claimant.withScav]; omega)

theorem Claimant.Of.withRad {e : Claimant} {g : Nat} (h : e.Of s) (least : g ≤ e.claimable true) : (e.withRad g).Of s :=
  h.granted least ⟨rfl, rfl, rfl, rfl, rfl, rfl⟩ (by simp only [Claimant.total, Claimant.withRad]; omega)

theorem Claimant.Of.withComp {e : Claimant} {g : Nat} (h : e.Of s) (least : g ≤ e.claimable true) : (e.withComp g).Of s :=
  h.granted least ⟨rfl, rfl, rfl, rfl, rfl, rfl⟩ (by simp only [Claimant.total, Claimant.withComp]; omega)

theorem Claimant.Of.withPtc {e : Claimant} {g : Nat} (h : e.Of s) (least : g ≤ e.claimable true) : (e.withPtc g).Of s :=
  h.granted least ⟨rfl, rfl, rfl, rfl, rfl, rfl⟩ (by simp only [Claimant.total, Claimant.withPtc]; omega)

end

section
variable (s : State)

theorem State.afterScav_of : ∀ e ∈ s.afterScav, e.Of s :=
  runStage_forall _ _ _ _ s.claimants_of fun _ _ h _ least => h.withScav least

theorem State.afterCredit_of : ∀ e ∈ s.afterCredit, e.Of s :=
  runStage_forall _ _ _ _ s.afterScav_of fun _ _ h _ least => h.withScav least

theorem State.afterRad_of : ∀ e ∈ s.afterRad, e.Of s :=
  runStage_forall _ _ _ _ s.afterCredit_of fun _ _ h _ least => h.withRad least

theorem State.afterComp_of : ∀ e ∈ s.afterComp, e.Of s :=
  runStage_forall _ _ _ _ s.afterRad_of fun _ _ h _ least => h.withComp least

/-- The compressor minimum changes no more than COMP's grants (R40). -/
theorem State.afterMinimum_forall {P : Claimant → Prop} (before : ∀ e ∈ s.afterComp, P e) (keeps : ∀ e, P e → P (e.withComp 0)) :
    ∀ e ∈ s.afterMinimum, P e := by
  unfold State.afterMinimum
  split
  · intro d hd
    obtain ⟨e, mem, rfl⟩ := List.mem_map.mp hd
    exact keeps e (before e mem)
  · exact before

theorem State.afterMinimum_map_eq {β : Type} {f : Claimant → β} (keeps : ∀ e, f (e.withComp 0) = f e) :
    s.afterMinimum.map f = s.afterComp.map f := by
  unfold State.afterMinimum
  split
  · rw [List.map_map]
    exact List.map_congr_left fun e _ => keeps e
  · rfl

theorem State.afterMinimum_of : ∀ e ∈ s.afterMinimum, e.Of s :=
  s.afterMinimum_forall s.afterComp_of fun _ h => h.withComp (Nat.zero_le _)

theorem State.afterPtc_of : ∀ e ∈ s.afterPtc, e.Of s :=
  runStage_forall _ _ _ _ s.afterMinimum_of fun _ _ h _ least => h.withPtc least

/-! ## The grants not yet made -/

/-- A demand's SCAV grant comes from SCAV for the battery's heat or from its credit for the motor's cooling (R36, R37). -/
def Claimant.ScavServed (e : Claimant) : Prop := e.asks .battery .heat = false → e.asks .motor .cool = false → e.scav = 0

/-- A demand's PTC grant is for heat of the battery or the cabin (R41). -/
def Claimant.PtcServed (e : Claimant) : Prop := ptcServes e = false → e.ptc = 0

theorem State.claimants_none : ∀ e ∈ s.claimants, e.scav = 0 ∧ e.rad = 0 ∧ e.comp = 0 ∧ e.ptc = 0 := by
  intro e mem
  obtain ⟨i, -, rfl⟩ := List.mem_map.mp mem
  exact ⟨rfl, rfl, rfl, rfl⟩

theorem State.afterScav_none : ∀ e ∈ s.afterScav, (e.asks .battery .heat = false → e.scav = 0) ∧ e.rad = 0 ∧ e.comp = 0 ∧ e.ptc = 0 := by
  refine runStage_forall _ _ _ _ (fun e mem => ⟨fun _ => (s.claimants_none e mem).1, (s.claimants_none e mem).2⟩) ?_
  rintro e g ⟨-, rest⟩ serves -
  exact ⟨fun other => absurd (Bool.and_eq_true_iff.mp serves).2 (Bool.eq_false_iff.mp other), rest⟩

theorem State.afterCredit_none : ∀ e ∈ s.afterCredit, e.ScavServed ∧ e.rad = 0 ∧ e.comp = 0 ∧ e.ptc = 0 := by
  refine runStage_forall _ _ _ _ (fun e mem => ⟨fun other _ => (s.afterScav_none e mem).1 other, (s.afterScav_none e mem).2⟩) ?_
  rintro e g ⟨-, rest⟩ serves -
  exact ⟨fun _ other => absurd serves (Bool.eq_false_iff.mp other), rest⟩

theorem State.afterRad_none : ∀ e ∈ s.afterRad, e.ScavServed ∧ e.comp = 0 ∧ e.ptc = 0 := by
  refine runStage_forall _ _ _ _ (fun e mem => ?_) ?_
  · obtain ⟨scav, -, rest⟩ := s.afterCredit_none e mem
    exact ⟨scav, rest⟩
  · exact fun e g h _ _ => h

theorem State.afterComp_none : ∀ e ∈ s.afterComp, e.ScavServed ∧ e.ptc = 0 := by
  refine runStage_forall _ _ _ _ (fun e mem => ?_) ?_
  · obtain ⟨scav, -, rest⟩ := s.afterRad_none e mem
    exact ⟨scav, rest⟩
  · exact fun e g h _ _ => h

theorem State.afterMinimum_none : ∀ e ∈ s.afterMinimum, e.ScavServed ∧ e.ptc = 0 :=
  s.afterMinimum_forall s.afterComp_none fun _ h => h

theorem State.afterPtc_served : ∀ e ∈ s.afterPtc, e.ScavServed ∧ e.PtcServed := by
  refine runStage_forall _ _ _ _ (fun e mem => ?_) ?_
  · obtain ⟨scav, none⟩ := s.afterMinimum_none e mem
    exact ⟨scav, fun _ => none⟩
  · rintro e g ⟨scav, -⟩ serves -
    exact ⟨scav, fun other => absurd serves (Bool.eq_false_iff.mp other)⟩

/-! ## What later turns leave -/

theorem State.afterPtc_map_eq {β : Type} {f : Claimant → β} (comp : ∀ e g, f (Claimant.withComp e g) = f e)
    (ptc : ∀ e g, f (Claimant.withPtc e g) = f e) : s.afterPtc.map f = s.afterRad.map f :=
  calc s.afterPtc.map f
    _ = s.afterMinimum.map f := runStage_map_eq _ _ _ _ ptc
    _ = s.afterComp.map f := s.afterMinimum_map_eq fun e => comp e 0
    _ = s.afterRad.map f := runStage_map_eq _ _ _ _ comp

theorem State.afterPtc_ix : s.afterPtc.map Claimant.ix = allSlots.filter (fun i => (s.demand i).stands) := by
  rw [s.afterPtc_map_eq (fun _ _ => rfl) (fun _ _ => rfl), s.afterRad_map_eq (fun _ _ => rfl) (fun _ _ => rfl),
    State.claimants_ix]

end

end Sys2Proof.Machine
end

section
/-!
PROOFS. The grant set of a cycle (R35 to R42, R47): its totals within their pools, its demands within what they asked, and one sense in
each zone.
-/

namespace Sys2Proof.Machine

/-! ## Sums over the demands of a cycle -/

theorem sumOf_congr {f g : Claimant → Nat} {es : List Claimant} (h : ∀ e ∈ es, f e = g e) : sumOf f es = sumOf g es :=
  congrArg List.sum (List.map_congr_left h)

theorem sumZone_eq_sumOf (z : Zone) (f : Claimant → Nat) (es : List Claimant) :
    sumZone z f es = sumOf (fun e => if e.zone == z then f e else 0) es := by
  induction es with
  | nil => rfl
  | cons e es ih =>
    unfold sumZone sumOf at ih ⊢
    rw [List.filter_cons, List.map_cons, List.sum_cons]
    split
    · rw [List.map_cons, List.sum_cons, ih]
    · rw [ih, Nat.zero_add]

theorem sumOf_eq_zero {f : Claimant → Nat} {es : List Claimant} : sumOf f es = 0 ↔ ∀ e ∈ es, f e = 0 := by
  simp [sumOf, List.sum_eq_zero_iff]

/-- A zone has no loop sense where it is granted nothing (R47). -/
theorem loopSenseOf_eq_none (z : Zone) (es : List Claimant) : loopSenseOf z es = none ↔ sumZone z Claimant.total es = 0 := by
  have none_found : loopSenseOf z es = none ↔ es.find? (fun e => e.zone == z && decide (0 < e.total)) = none := by
    unfold loopSenseOf
    split <;> simp [*]
  rw [none_found, List.find?_eq_none, sumZone_eq_sumOf, sumOf_eq_zero]
  refine forall₂_congr fun e _ => ?_
  by_cases zone : e.zone = z <;> simp [zone]

section
variable (s : State)

/-! ## Each resource within its pool -/

theorem State.afterRad_once : (s.afterRad.map Claimant.ix).Nodup := by
  rw [s.afterRad_map_eq (fun _ _ => rfl) (fun _ _ => rfl), State.claimants_ix]
  exact allSlots_nodup.filter _

theorem State.afterScav_once : (s.afterScav.map Claimant.ix).Nodup := by
  rw [State.afterScav, runStage_map_eq (record := Claimant.withScav) _ _ _ _ fun _ _ => rfl, State.claimants_ix]
  exact allSlots_nodup.filter _

theorem State.afterCredit_once : (s.afterCredit.map Claimant.ix).Nodup := by
  rw [State.afterCredit, runStage_map_eq (record := Claimant.withScav) _ _ _ _ fun _ _ => rfl]
  exact s.afterScav_once

theorem State.afterMinimum_once : (s.afterMinimum.map Claimant.ix).Nodup := by
  rw [s.afterMinimum_map_eq fun _ => rfl, State.afterComp, runStage_map_eq (record := Claimant.withComp) _ _ _ _ fun _ _ => rfl]
  exact s.afterRad_once

/-- SCAV's grants, the credit's among them left out. -/
def Claimant.scavHeat (e : Claimant) : Nat := if e.asks .battery .heat then e.scav else 0

/-- The credit's grants. -/
def Claimant.scavCredit (e : Claimant) : Nat := if e.asks .motor .cool then e.scav else 0

/-- No demand asks for the battery's heat and the motor's cooling. -/
theorem Claimant.not_asks_motor {e : Claimant} (h : e.asks .battery .heat = true) : e.asks .motor .cool = false := by
  simp only [Claimant.asks, Bool.and_eq_true, beq_iff_eq] at h
  simp [Claimant.asks, h.1]

/-- The battery's SCAV grants are those for its heat. -/
theorem Claimant.ScavServed.of_battery {e : Claimant} (h : e.ScavServed) (zone : e.zone = .battery) : e.scav = e.scavHeat := by
  unfold Claimant.scavHeat
  split
  · rfl
  next other => exact h (Bool.eq_false_iff.mpr other) (by simp [Claimant.asks, zone])

/-- The motor's SCAV grants are those of the credit. -/
theorem Claimant.ScavServed.of_motor {e : Claimant} (h : e.ScavServed) (zone : e.zone = .motor) : e.scav = e.scavCredit := by
  unfold Claimant.scavCredit
  split
  · rfl
  next other => exact h (by simp [Claimant.asks, zone]) (Bool.eq_false_iff.mpr other)

theorem State.afterScav_scavHeat :
    s.afterScav.map Claimant.scavHeat =
      (sharePool s.age (s.scavPool s.valve.availability) (claimsOf (scavServes s.valve.availability) s.claimants)).2.map Claim.got := by
  refine runStage_amounts _ _ _ _ (fun e g serves => ?_) fun e mem _ => ?_
  · exact if_pos (Bool.and_eq_true_iff.mp serves).2
  · simp [Claimant.scavHeat, s.claimants_none e mem]

/-- The credit is for other demands than SCAV. -/
theorem State.afterCredit_scavHeat : s.afterCredit.map Claimant.scavHeat = s.afterScav.map Claimant.scavHeat := by
  refine runStage_map_unwritten _ _ _ _ fun e g serves => ?_
  have other : e.asks .battery .heat = false := Bool.eq_false_iff.mpr fun heat =>
    Bool.eq_false_iff.mp (Claimant.not_asks_motor heat) serves
  exact (if_neg (Bool.eq_false_iff.mp other)).trans (if_neg (Bool.eq_false_iff.mp other)).symm

theorem State.afterCredit_scavCredit :
    s.afterCredit.map Claimant.scavCredit = (sharePool s.age s.scavGranted (claimsOf creditServes s.afterScav)).2.map Claim.got :=
  runStage_amounts _ _ _ _ (fun _ _ serves => if_pos serves) fun _ _ other => if_neg (Bool.eq_false_iff.mp other)

/-- RAD, COMP and PTC change no SCAV grant. -/
theorem State.afterPtc_scav_eq {β : Type} {f : Claimant → β} (rad : ∀ e g, f (Claimant.withRad e g) = f e)
    (comp : ∀ e g, f (Claimant.withComp e g) = f e) (ptc : ∀ e g, f (Claimant.withPtc e g) = f e) :
    s.afterPtc.map f = s.afterCredit.map f :=
  (s.afterPtc_map_eq comp ptc).trans (runStage_map_eq _ _ _ _ rad)

theorem State.scavGranted_eq : s.scavGranted = sumOf Claimant.scavHeat s.afterScav := by
  rw [State.scavGranted, sumZone_eq_sumOf]
  refine sumOf_congr fun e mem => ?_
  unfold Claimant.scavHeat
  by_cases heat : e.asks .battery .heat = true
  · have zone : (e.zone == .battery) = true := (Bool.and_eq_true_iff.mp heat).1
    rw [if_pos zone, if_pos heat]
  · rw [if_neg heat, (s.afterScav_none e mem).1 (Bool.eq_false_iff.mpr heat), ite_self]

theorem State.scavGranted_le : s.scavGranted ≤ s.scavPool s.valve.availability := by
  rw [State.scavGranted_eq, sumOf, State.afterScav_scavHeat]
  refine sharePool_claimsOf_got_le _ _ _ _ ?_
  rw [State.claimants_ix]
  exact allSlots_nodup.filter _

/-- The credit stays within SCAV's total (R37). -/
theorem State.creditTotal_eq : sumZone .motor Claimant.scav s.afterPtc = sumOf Claimant.scavCredit s.afterCredit := by
  have whole : sumOf Claimant.scavCredit s.afterCredit = sumOf Claimant.scavCredit s.afterPtc :=
    congrArg List.sum (s.afterPtc_scav_eq (fun _ _ => rfl) (fun _ _ => rfl) (fun _ _ => rfl)).symm
  rw [whole, sumZone_eq_sumOf]
  refine sumOf_congr fun e mem => ?_
  by_cases motor : e.zone = .motor
  · rw [motor, beq_self_eq_true, if_pos rfl, (s.afterPtc_served e mem).1.of_motor motor]
  · simp [motor, Claimant.scavCredit, Claimant.asks]

theorem State.creditTotal_le : sumZone .motor Claimant.scav s.afterPtc ≤ s.scavGranted := by
  rw [State.creditTotal_eq, sumOf, State.afterCredit_scavCredit]
  exact sharePool_claimsOf_got_le _ _ _ _ s.afterScav_once

theorem State.afterRad_rad :
    s.afterRad.map Claimant.rad =
      (sharePool s.age (s.radPool s.valve.availability) (claimsOf (radServes s.valve.availability) s.afterCredit)).2.map Claim.got :=
  runStage_amounts _ _ _ _ (fun _ _ _ => rfl) fun e mem _ => (s.afterCredit_none e mem).2.1

theorem State.radTotal_le : sumOf Claimant.rad s.afterPtc ≤ s.radPool s.valve.availability := by
  rw [sumOf, s.afterPtc_map_eq (fun _ _ => rfl) (fun _ _ => rfl), State.afterRad_rad]
  exact sharePool_claimsOf_got_le _ _ _ _ s.afterCredit_once

theorem State.afterComp_comp :
    s.afterComp.map Claimant.comp =
      (sharePool s.age (s.compPool s.allowanceValue) (claimsOf compServes s.afterRad)).2.map Claim.got :=
  runStage_amounts _ _ _ _ (fun _ _ _ => rfl) fun e mem _ => (s.afterRad_none e mem).2.1

theorem State.afterPtc_ptc :
    s.afterPtc.map Claimant.ptc =
      (sharePool s.age (s.ptcPool s.allowanceValue s.compDraw) (claimsOf ptcServes s.afterMinimum)).2.map Claim.got :=
  runStage_amounts _ _ _ _ (fun _ _ _ => rfl) fun e mem _ => (s.afterMinimum_none e mem).2

theorem State.ptcTotal_le : sumOf Claimant.ptc s.afterPtc ≤ s.ptcPool s.allowanceValue s.compDraw := by
  rw [sumOf, State.afterPtc_ptc]
  exact sharePool_claimsOf_got_le _ _ _ _ s.afterMinimum_once

/-- PTC heats the cabin and the battery alone (R41). -/
theorem State.heaters_eq :
    sumZone .cabin Claimant.ptc s.afterPtc + sumZone .battery Claimant.ptc s.afterPtc = sumOf Claimant.ptc s.afterPtc := by
  rw [sumZone_eq_sumOf, sumZone_eq_sumOf, sumOf, sumOf, ← List.sum_map_add]
  refine congrArg List.sum (List.map_congr_left fun e mem => ?_)
  have served := (s.afterPtc_served e mem).2
  cases zone : e.zone with
  | motor => simp [served (by simp [ptcServes, Claimant.asks, zone])]
  | battery => simp
  | cabin => simp

theorem State.compTotal_add_revoked : s.grantSet.compTotal + s.grantSet.revoked = s.compShared := by
  change s.compGranted + (if s.compRevoked then s.compShared else 0) = _
  unfold State.compGranted
  split <;> omega

theorem State.grantSet_entries_map {β : Type} (f : GrantEntry → β) :
    s.grantSet.entries.map f = s.afterPtc.map (fun e => f e.entry) := by
  change (s.afterPtc.map Claimant.entry).map f = _
  rw [List.map_map]
  rfl

theorem State.grantSet_zoneMap (z : Zone) (f : GrantEntry → Nat) :
    ((s.grantSet.entries.filter (fun e => zoneOfIx e.ix == z)).map f).sum = sumZone z (fun e => f e.entry) s.afterPtc := by
  change (((s.afterPtc.map Claimant.entry).filter _).map f).sum = _
  rw [List.filter_map, List.map_map]
  rfl

theorem get_zoneIx {α : Type} (f : Zone → α) (z : Zone) : (#v[f .motor, f .battery, f .cabin]).get (zoneIx z) = f z := by
  cases z <;> rfl

theorem State.grantSet_loopTotal (z : Zone) : s.grantSet.loopTotal.get (zoneIx z) = sumZone z Claimant.total s.afterPtc := by
  exact get_zoneIx (fun z => sumZone z Claimant.total s.afterPtc) z

theorem State.grantSet_loopSense (z : Zone) : s.grantSet.loopSense.get (zoneIx z) = loopSenseOf z s.afterPtc := by
  exact get_zoneIx (fun z => loopSenseOf z s.afterPtc) z

theorem State.grantSet_loops (z : Zone) : s.grantSet.loopTotal.get (zoneIx z) = s.grantSet.zoneSum z := by
  rw [GrantSet.zoneSum, s.grantSet_zoneMap, s.grantSet_loopTotal]
  rfl

theorem State.grantSet_senses (z : Zone) :
    s.grantSet.loopSense.get (zoneIx z) = none ↔ s.grantSet.loopTotal.get (zoneIx z) = 0 := by
  rw [s.grantSet_loopSense, s.grantSet_loopTotal]
  exact loopSenseOf_eq_none z s.afterPtc

theorem State.grantSet_ix :
    s.grantSet.entries.map GrantEntry.ix = allSlots.filter (fun i => (s.demand i).stands) := by
  rw [s.grantSet_entries_map]
  exact s.afterPtc_ix

variable {s} in
theorem State.mem_grantSet_entries {g : GrantEntry} (mem : g ∈ s.grantSet.entries) :
    ∃ e ∈ s.afterPtc, e.entry = g ∧ e.Of s := by
  obtain ⟨e, made, rfl⟩ := List.mem_map.mp mem
  exact ⟨e, made, rfl, s.afterPtc_of e made⟩

theorem State.grantSet_held : ∀ g ∈ s.grantSet.entries, g.held = true → g.total = 0 := by
  intro g mem
  obtain ⟨e, -, rfl, of⟩ := State.mem_grantSet_entries mem
  exact of.heldNone

/-- The draws stay within the allowance (R42). -/
theorem State.totalDraw_le : s.grantSet.totalDraw ≤ s.grantSet.allowance := by
  have draw := s.compDraw_le_allowance
  have ptc : sumOf Claimant.ptc s.afterPtc ≤ s.allowanceValue - s.compDraw := s.ptcTotal_le.trans (Nat.min_le_right ..)
  change s.compDraw + sumOf Claimant.ptc s.afterPtc ≤ s.allowanceValue
  omega

theorem State.grantSet_revoked : s.grantSet.revoked = 0 ∨ s.grantSet.compTotal = 0 := by
  change (if s.compRevoked then s.compShared else 0) = 0 ∨ (if s.compRevoked then 0 else s.compShared) = 0
  cases s.compRevoked <;> simp

theorem State.grantSet_comp : s.grantSet.compTotal + s.grantSet.revoked ≤ s.grantSet.compPool :=
  s.compTotal_add_revoked.trans_le s.compShared_le

theorem State.grantSet_heatCabin : s.grantSet.heatCabin = sumZone .cabin Claimant.ptc s.afterPtc := rfl

theorem State.grantSet_heatBattery : s.grantSet.heatBattery = sumZone .battery Claimant.ptc s.afterPtc := rfl

theorem State.grantSet_ptcTotal : s.grantSet.ptcTotal = sumOf Claimant.ptc s.afterPtc := rfl

theorem State.grantSet_heaters : s.grantSet.heatCabin + s.grantSet.heatBattery = s.grantSet.ptcTotal := by
  rw [s.grantSet_heatCabin, s.grantSet_heatBattery, s.grantSet_ptcTotal, s.heaters_eq]

theorem State.grantSet_totalDraw : s.grantSet.totalDraw = s.grantSet.compDraw + s.grantSet.heaterDraw := rfl

/-- The grant set of every cycle is sound. -/
theorem State.grantSet_ok : s.grantSet.Ok :=
  ⟨s.scavGranted_le, s.creditTotal_le, s.radTotal_le, s.grantSet_comp, s.grantSet_revoked, s.ptcTotal_le, s.grantSet_heaters, rfl, s.grantSet_totalDraw,
    s.totalDraw_le, s.grantSet_held, s.grantSet_ix ▸ allSlots_nodup.filter _, s.grantSet_loops, s.grantSet_senses⟩

end

/-- R16: what holds a demand, tier by tier. -/
theorem State.isHeld_eq (s : State) (i : Fin 15) :
    s.isHeld i =
      ((match (s.demand i).tier with
        | .protect => false
        | .charge => s.regime.regime != .charge
        | .drive => s.regime.regime != .drive
        | .comfort => s.shed) || s.opposedBySynthetic i) := by
  unfold State.isHeld tierPermitted
  cases (s.demand i).tier with
  | protect | comfort => simp
  | charge | drive => simp [bne, show (Tier.charge == Tier.comfort) = false from rfl, show (Tier.drive == Tier.comfort) = false from rfl]

theorem State.compTotal_revoked (s : State) :
    (s.grantSet.compTotal = 0 ∨ s.num .compMin ≤ s.grantSet.compTotal) ∧
      (0 < s.grantSet.revoked → s.grantSet.revoked < s.num .compMin) := by
  change ((if s.compRevoked then 0 else s.compShared) = 0 ∨ _ ≤ (if s.compRevoked then 0 else s.compShared)) ∧
    (0 < (if s.compRevoked then s.compShared else 0) → (if s.compRevoked then s.compShared else 0) < _)
  cases revoked : s.compRevoked with
  | false =>
    simp only [State.compRevoked, Bool.and_eq_false_iff, decide_eq_false_iff_not] at revoked
    simp only [Bool.false_eq_true, if_false]
    omega
  | true =>
    simp only [State.compRevoked, Bool.and_eq_true, decide_eq_true_eq] at revoked
    exact ⟨.inl (if_pos rfl), fun _ => by simpa using revoked.2⟩

/-- Settles O18. -/
theorem grantsStayWithinTheirBounds : Obligations.GrantsStayWithinTheirBounds := by
  intro s
  refine ⟨s.grantSet_ok, s.grantSet_ix, fun g mem => ?_, fun g mem => ?_, s.compTotal_revoked⟩
  · obtain ⟨e, -, rfl, of⟩ := State.mem_grantSet_entries mem
    exact of.asked ▸ of.within
  · obtain ⟨e, -, rfl, of⟩ := State.mem_grantSet_entries mem
    exact of.held.trans (s.isHeld_eq e.ix)

/-! ## One sense in each zone -/

theorem State.grantSet_stands {s : State} {g : GrantEntry} (mem : g ∈ s.grantSet.entries) : (s.demand g.ix).stands = true := by
  have listed : g.ix ∈ s.grantSet.entries.map GrantEntry.ix := List.mem_map_of_mem mem
  rw [s.grantSet_ix] at listed
  exact (List.mem_filter.mp listed).2

/-- A posted demand that is granted something is not opposed by its zone's G. -/
theorem State.grantSet_unopposed {s : State} {g : GrantEntry} (mem : g ∈ s.grantSet.entries) (gets : 0 < g.total) :
    s.opposedBySynthetic g.ix = false := by
  obtain ⟨e, -, rfl, of⟩ := State.mem_grantSet_entries mem
  have free : s.isHeld e.ix = false := by
    rw [← of.held]
    refine Bool.eq_false_iff.mpr fun held => ?_
    have none := of.heldNone held
    have some : 0 < e.total := gets
    omega
  exact (Bool.or_eq_false_iff.mp free).2

/-- A posted demand that is not opposed agrees with its zone's G, if that stands (R16). -/
theorem State.sense_of_unopposed {s : State} {z : Zone} {k : Fin 4} (free : s.opposedBySynthetic (postedIx z k) = false)
    (stands : (s.demand (gIx z)).stands = true) : (s.demand (postedIx z k)).sense = (s.demand (gIx z)).sense := by
  by_contra apart
  have opposed : s.opposedBySynthetic (postedIx z k) = true := by
    simp [State.opposedBySynthetic, postedIx_ne_gIx, stands, Ne.symm apart]
  rw [free] at opposed
  exact Bool.false_ne_true opposed

/-- Two standing demands of a zone that are not opposed share one sense: two posted ones by R6, and G opposes no posted one. -/
theorem State.DemandsOk.sense_eq {s : State} (ok : s.DemandsOk) {i j : Fin 15} (zone : zoneOfIx i = zoneOfIx j)
    (i_stands : (s.demand i).stands = true) (j_stands : (s.demand j).stands = true)
    (i_free : s.opposedBySynthetic i = false) (j_free : s.opposedBySynthetic j = false) :
    (s.demand i).sense = (s.demand j).sense := by
  obtain ⟨y, k, rfl⟩ | ⟨y, rfl⟩ := slot_cases i <;> obtain ⟨z, l, rfl⟩ | ⟨z, rfl⟩ := slot_cases j <;>
    simp only [zoneOfIx_postedIx, zoneOfIx_gIx] at zone <;> subst zone
  · exact ok.oneSense y k l i_stands j_stands
  · exact State.sense_of_unopposed i_free j_stands
  · exact (State.sense_of_unopposed j_free i_stands).symm
  · rfl

/-- Settles O19. -/
theorem zonesReceiveOneSense : Obligations.ZonesReceiveOneSense := fun _ ok _ he _ hf zone e_gets f_gets =>
  ok.sense_eq zone (State.grantSet_stands he) (State.grantSet_stands hf) (State.grantSet_unopposed he e_gets)
    (State.grantSet_unopposed hf f_gets)

end Sys2Proof.Machine
end

section
/-!
PROOFS. A cycle's grants as the shares of its pools (R36 to R41): each turn's claims, read off the grant set.
-/

namespace Sys2Proof.Machine

/-- A demand's claim at a resource as its entry in the grant set tells it: what it asked for less what the resources before gave it. -/
def State.claimAt (s : State) (serves : GrantEntry → Bool) (before : GrantEntry → Nat) (e : GrantEntry) : Claim :=
  { ix := e.ix, tier := (s.demand e.ix).tier
    weight := min 15 ((s.demand e.ix).weight + min 14 (s.demand e.ix).starveCount)
    want := if serves e && !e.held then (s.demand e.ix).asked - before e else 0
    got := 0 }

/-- What the claims of a pool get, as the grant set's entries tell them. -/
def State.entryShare (s : State) (pool : Nat) (serves : GrantEntry → Bool) (before : GrantEntry → Nat) : List Nat :=
  (sharePool s.age pool (s.grantSet.entries.map (s.claimAt serves before))).2.map Claim.got

/-- An entry's demand asks for a service (R24). -/
def State.entryAsks (s : State) (e : GrantEntry) (z : Zone) (x : Sense) : Bool := zoneOfIx e.ix == z && (s.demand e.ix).sense == x

section
variable {s : State}

theorem Claimant.Of.asks {e : Claimant} (h : e.Of s) (z : Zone) (x : Sense) : e.asks z x = s.entryAsks e.entry z x := by
  rw [Claimant.asks, h.sense]
  rfl

/-- The claims of a turn, from what the demands have when it comes. -/
theorem claimsOf_eq_claimAt {es : List Claimant} {serves : Claimant → Bool} {entryServes : GrantEntry → Bool}
    {before : GrantEntry → Nat} (of : ∀ e ∈ es, e.Of s) (same : ∀ e ∈ es, serves e = entryServes e.entry)
    (lacks : ∀ e ∈ es, serves e = true → e.total = before e.entry) :
    claimsOf serves es = es.map (fun e => s.claimAt entryServes before e.entry) := by
  refine List.map_congr_left fun e mem => ?_
  obtain ⟨-, tier, weight, asked, -, -, -⟩ := of e mem
  have want : e.claimable (serves e) = if entryServes e.entry && !e.held then (s.demand e.ix).asked - before e.entry else 0 := by
    rw [← same e mem]
    unfold Claimant.claimable Claimant.residual
    cases served : serves e with
    | false => rfl
    | true => rw [lacks e mem served, asked]
  unfold Claimant.claim State.claimAt
  rw [tier, weight]
  exact congrArg (Claim.mk _ _ _ · 0) want

/-- A turn's shares, where the turns after it leave its claims as they were. -/
theorem entryShare_of_claims {es : List Claimant} {serves : Claimant → Bool} {entryServes : GrantEntry → Bool}
    {before : GrantEntry → Nat} (of : ∀ e ∈ es, e.Of s) (same : ∀ e ∈ es, serves e = entryServes e.entry)
    (lacks : ∀ e ∈ es, serves e = true → e.total = before e.entry)
    (later : s.afterPtc.map (fun e => s.claimAt entryServes before e.entry) = es.map (fun e => s.claimAt entryServes before e.entry))
    (pool : Nat) : s.entryShare pool entryServes before = (sharePool s.age pool (claimsOf serves es)).2.map Claim.got := by
  rw [State.entryShare, s.grantSet_entries_map, later, claimsOf_eq_claimAt of same lacks]

end

section
variable (s : State)

/-! ## The five turns -/

theorem State.scavShare :
    s.entryShare (s.scavPool s.valve.availability) (fun e => s.valve.availability.scav && s.entryAsks e .battery .heat) (fun _ => 0) =
      s.afterPtc.map Claimant.scavHeat := by
  rw [s.afterPtc_scav_eq (fun _ _ => rfl) (fun _ _ => rfl) (fun _ _ => rfl), s.afterCredit_scavHeat, s.afterScav_scavHeat]
  refine entryShare_of_claims s.claimants_of (fun e mem => ?_) (fun e mem _ => ?_) ?_ _
  · exact congrArg (s.valve.availability.scav && ·) ((s.claimants_of e mem).asks ..)
  · obtain ⟨scav, rad, comp, ptc⟩ := s.claimants_none e mem
    simp only [Claimant.total, scav, rad, comp, ptc]
  · exact (s.afterPtc_map_eq (fun _ _ => rfl) (fun _ _ => rfl)).trans (s.afterRad_map_eq (fun _ _ => rfl) (fun _ _ => rfl))

theorem State.creditShare :
    s.entryShare s.scavGranted (fun e => s.entryAsks e .motor .cool) (fun _ => 0) = s.afterPtc.map Claimant.scavCredit := by
  rw [s.afterPtc_scav_eq (fun _ _ => rfl) (fun _ _ => rfl) (fun _ _ => rfl), s.afterCredit_scavCredit]
  refine entryShare_of_claims s.afterScav_of (fun e mem => (s.afterScav_of e mem).asks ..) (fun e mem serves => ?_) ?_ _
  · obtain ⟨scav, rad, comp, ptc⟩ := s.afterScav_none e mem
    have other : e.asks .battery .heat = false := Bool.eq_false_iff.mpr fun heat =>
      Bool.eq_false_iff.mp (Claimant.not_asks_motor heat) serves
    simp only [Claimant.total, scav other, rad, comp, ptc]
  · rw [s.afterPtc_scav_eq (fun _ _ => rfl) (fun _ _ => rfl) (fun _ _ => rfl)]
    exact runStage_map_eq _ _ _ _ fun _ _ => rfl

theorem State.radShare :
    s.entryShare (s.radPool s.valve.availability)
        (fun e => s.valve.availability.radM && s.entryAsks e .motor .cool || s.valve.availability.radB && s.entryAsks e .battery .cool)
        (fun e => e.scav) =
      s.afterPtc.map Claimant.rad := by
  rw [s.afterPtc_map_eq (fun _ _ => rfl) (fun _ _ => rfl), s.afterRad_rad]
  refine entryShare_of_claims s.afterCredit_of (fun e mem => ?_) (fun e mem _ => ?_) ?_ _
  · have of := s.afterCredit_of e mem
    rw [radServes, of.asks, of.asks]
  · obtain ⟨-, rad, comp, ptc⟩ := s.afterCredit_none e mem
    simp only [Claimant.total, rad, comp, ptc, Claimant.entry, Nat.add_zero]
  · exact s.afterPtc_scav_eq (fun _ _ => rfl) (fun _ _ => rfl) (fun _ _ => rfl)

/-- COMP serves every demand but the motor's (R39). -/
theorem compServes_eq (e : Claimant) : compServes e = (e.zone != .motor) := by
  unfold compServes Claimant.asks
  cases e.zone <;> cases e.sense <;> rfl

theorem State.compShare :
    s.entryShare (s.compPool s.allowanceValue) (fun e => zoneOfIx e.ix != .motor) (fun e => e.scav + e.rad) =
      s.afterComp.map Claimant.comp := by
  rw [s.afterComp_comp]
  refine entryShare_of_claims s.afterRad_of (fun e _ => compServes_eq e) (fun e mem _ => ?_) ?_ _
  · obtain ⟨-, comp, ptc⟩ := s.afterRad_none e mem
    simp only [Claimant.total, comp, ptc, Claimant.entry, Nat.add_zero]
  · exact s.afterPtc_map_eq (fun _ _ => rfl) (fun _ _ => rfl)

theorem State.ptcShare :
    s.entryShare (s.ptcPool s.allowanceValue s.compDraw) (fun e => s.entryAsks e .battery .heat || s.entryAsks e .cabin .heat)
        (fun e => e.scav + e.rad + e.comp) =
      s.afterPtc.map Claimant.ptc := by
  rw [s.afterPtc_ptc]
  refine entryShare_of_claims s.afterMinimum_of (fun e mem => ?_) (fun e mem _ => ?_) ?_ _
  · have of := s.afterMinimum_of e mem
    rw [ptcServes, of.asks, of.asks]
  · have none := (s.afterMinimum_none e mem).2
    simp only [Claimant.total, none, Claimant.entry, Nat.add_zero]
  · exact runStage_map_eq _ _ _ _ fun _ _ => rfl

/-! ## The totals -/

theorem State.grantSet_scavTotal : s.grantSet.scavTotal = s.scavGranted := rfl

theorem State.grantSet_creditTotal : s.grantSet.creditTotal = sumZone .motor Claimant.scav s.afterPtc := rfl

theorem State.grantSet_radTotal : s.grantSet.radTotal = sumOf Claimant.rad s.afterPtc := rfl

theorem State.grantSet_compTotal : s.grantSet.compTotal = if s.compRevoked then 0 else s.compShared := rfl

theorem State.grantSet_revokedTotal : s.grantSet.revoked = if s.compRevoked then s.compShared else 0 := rfl

/-- SCAV's total is what the battery's demands have from it (R36). -/
theorem State.scavGranted_eq_zone : s.scavGranted = sumZone .battery Claimant.scav s.afterPtc := by
  have whole : sumOf Claimant.scavHeat s.afterScav = sumOf Claimant.scavHeat s.afterPtc :=
    congrArg List.sum
      ((s.afterPtc_scav_eq (fun _ _ => rfl) (fun _ _ => rfl) (fun _ _ => rfl)).trans s.afterCredit_scavHeat).symm
  rw [s.scavGranted_eq, whole, sumZone_eq_sumOf]
  refine sumOf_congr fun e mem => ?_
  by_cases battery : e.zone = .battery
  · rw [battery, beq_self_eq_true, if_pos rfl, (s.afterPtc_served e mem).1.of_battery battery]
  · simp [battery, Claimant.scavHeat, Claimant.asks]

/-! ## The compressor minimum -/

theorem State.compRevoked_iff : s.compRevoked = true ↔ 0 < s.compShared ∧ s.compShared < s.num .compMin := by
  simp [State.compRevoked]

/-- What COMP's claims get, as the entries tell them. -/
def State.compEntryShare : List Nat :=
  s.entryShare (s.compPool s.allowanceValue) (fun e => zoneOfIx e.ix != .motor) (fun e => e.scav + e.rad)

theorem State.compEntryShare_sum : s.compEntryShare.sum = s.compShared := congrArg List.sum s.compShare

theorem State.ite_compRevoked {α : Type} (a b : α) :
    (if 0 < s.compEntryShare.sum ∧ s.compEntryShare.sum < s.num .compMin then a else b) = if s.compRevoked then a else b := by
  rw [s.compEntryShare_sum]
  exact if_congr s.compRevoked_iff.symm rfl rfl

/-- COMP's grants as they are kept: all of them, or none (R40). -/
theorem State.afterPtc_comp :
    s.afterPtc.map Claimant.comp = if s.compRevoked then s.afterPtc.map (fun _ => 0) else s.afterComp.map Claimant.comp := by
  have kept : s.afterPtc.map Claimant.comp = s.afterMinimum.map Claimant.comp := runStage_map_eq _ _ _ _ fun _ _ => rfl
  have counted : s.afterPtc.map (fun _ => 0) = s.afterComp.map (fun _ => 0) :=
    (runStage_map_eq (record := Claimant.withPtc) _ _ _ _ fun _ _ => rfl).trans (s.afterMinimum_map_eq fun _ => rfl)
  rw [kept, counted, State.afterMinimum]
  split
  · rw [List.map_map]
    rfl
  · rfl

end

/-- Settles O17: each clause is the turn of one resource, whose claims the later turns leave as they were. -/
theorem grantsAreTheSharesOfEachPool : Obligations.GrantsAreTheSharesOfEachPool := by
  intro s
  have asks {e : Claimant} (mem : e ∈ s.afterPtc) (z : Zone) (x : Sense) := (s.afterPtc_of e mem).asks z x
  refine ⟨?_, ?_, ?_, ?_, ?_, ?_, ?_, ?_, ?_, ?_, ?_, ?_⟩
  · refine (s.grantSet_entries_map _).trans (Eq.trans ?_ s.scavShare.symm)
    exact List.map_congr_left fun e mem => by rw [Claimant.scavHeat, asks mem]; rfl
  · refine (s.grantSet_entries_map _).trans (Eq.trans ?_ s.creditShare.symm)
    exact List.map_congr_left fun e mem => by rw [Claimant.scavCredit, asks mem]; rfl
  · intro g mem heat cool
    obtain ⟨e, made, rfl, of⟩ := State.mem_grantSet_entries mem
    exact (s.afterPtc_served e made).1 ((of.asks ..).trans heat) ((of.asks ..).trans cool)
  · exact (s.grantSet_entries_map _).trans s.radShare.symm
  · rw [s.grantSet_entries_map, s.grantSet_entries_map]
    refine Eq.trans ?_ (s.ite_compRevoked _ s.compEntryShare).symm
    rw [State.compEntryShare, s.compShare]
    exact s.afterPtc_comp
  · refine Eq.trans ?_ (s.ite_compRevoked 0 s.compEntryShare.sum).symm
    rw [s.grantSet_compTotal, s.compEntryShare_sum]
  · refine Eq.trans ?_ (s.ite_compRevoked s.compEntryShare.sum 0).symm
    rw [s.grantSet_revokedTotal, s.compEntryShare_sum]
  · exact (s.grantSet_entries_map _).trans s.ptcShare.symm
  · rw [s.grantSet_zoneMap, s.grantSet_scavTotal, s.scavGranted_eq_zone]
    rfl
  · rw [s.grantSet_zoneMap, s.grantSet_creditTotal]
    rfl
  · rw [s.grantSet_entries_map, s.grantSet_radTotal]
    rfl
  · rw [s.grantSet_entries_map, s.grantSet_ptcTotal]
    rfl

end Sys2Proof.Machine
end

section
/-!
PROOFS. The setup state (R156 to R160): who enters RUN and who leaves it.
-/

namespace Sys2Proof.Machine

/-! ## The commands that touch the setup state -/

theorem State.running_congr {s t : State} (h : t.setup.state = s.setup.state) : t.running = s.running := by
  simp only [State.running, h]

/-- Validation reads the parameters alone. -/
theorem State.lowestFailure_congr {s t : State} (h : t.params = s.params) : t.lowestFailure = s.lowestFailure := by
  obtain ⟨⟩ := s
  obtain ⟨⟩ := t
  obtain rfl : _ = _ := h
  rfl

theorem State.startVote_congr {s t : State} (h : t.setup.votes = s.setup.votes) (p : Port) : t.startVote p = s.startVote p := by
  simp only [State.startVote, h]

theorem State.startVote_setVote (s : State) (p q : Port) (v : Bool) :
    (s.setVote p v).startVote q = if q = p then v else s.startVote q := by
  simp [State.startVote, State.setVote, get_put]

theorem State.clearVotes_state (s : State) : s.clearVotes.setup.state = s.setup.state := by
  unfold State.clearVotes
  dsimp only
  split <;> simp

theorem State.writeInSetup_state (s : State) (q : Param) : (s.writeInSetup q).setup.state = s.setup.state := by
  unfold State.writeInSetup
  dsimp only
  rw [State.clearVotes_state]
  split <;> split <;> simp

/-- A SETP changes votes, but not the setup state (R157). -/
theorem setpCommand_setupState (p : Port) (id : Byte) (first second : Word) (s : State) :
    (setpCommand p id first second s).state.setup.state = s.setup.state := by
  rcases setpCommand_state p id first second s with e | ⟨q, j, -, -, -, e⟩ <;> rw [e]
  unfold State.takeWrite
  dsimp only
  split
  · simp
  · rw [State.writeInSetup_state]
    simp

theorem unstartCommand_setupState (p : Port) (s : State) : (unstartCommand p s).state.setup.state = s.setup.state := by
  unfold unstartCommand State.setVote
  dsimp only
  split <;> rfl

theorem State.enterRun_state (s : State) : s.enterRun.setup.state = .run := by
  simp [State.enterRun]

/-- A START that enters RUN completes the votes and passes validation (R156, R159). -/
theorem State.addVote_running {s : State} {p : Port} (setup : s.running = false) (run : (s.addVote p).running = true) :
    (∀ q, q ≠ p → s.startVote q = true) ∧ s.lowestFailure = none := by
  have waiting : (s.setVote p true).running = false := setup
  have same : (s.setVote p true).lowestFailure = s.lowestFailure := State.lowestFailure_congr rfl
  unfold State.addVote at run
  dsimp only at run
  split at run
  next all =>
    simp only [Bool.and_eq_true] at all
    obtain ⟨⟨m, b⟩, c⟩ := all
    refine ⟨fun q other => ?_, ?_⟩
    · have stands : (s.setVote p true).startVote q = true := by cases q <;> assumption
      rwa [State.startVote_setVote, if_neg other] at stands
    · unfold State.validate at run
      split at run
      next passed => exact same.symm.trans passed
      next id r _ =>
        have failed : ((s.setVote p true).failValidation id r).running = (s.setVote p true).running :=
          State.running_congr (by simp [State.failValidation])
        rw [failed, waiting] at run
        exact absurd run Bool.false_ne_true
  next => exact absurd (waiting.symm.trans run) Bool.false_ne_true

/-! ## Every command -/

theorem goodFrame_setup (p : Port) (n : Nat) (echo : Byte) (command : State → Answer) (s : State) :
    (goodFrame p n echo command s).setup = (command (s.frameArrives p n)).state.setup := by
  simp [goodFrame]

theorem deadFrame_setup (p : Port) (n : Nat) (status : Status) (echo : Byte) (s : State) :
    (deadFrame p n status echo s).setup = s.setup := by
  simp [deadFrame]

theorem State.resetWith_state (s : State) (r : ResetRecord) : (s.resetWith r).setup.state = .setup := by
  simp [State.resetWith, State.afterReset]

/-- A command is a reset or a START, or leaves the setup state. -/
theorem exec_setupState {c : Instr} {s t : State} (run : exec c s = .next t) :
    (c.isReset = true ∧ t.setup.state = .setup) ∨ (∃ p n, c = .start p n ∧ t = goodFrame p n 0x09#8 (startCommand p) s) ∨
      t.setup.state = s.setup.state := by
  cases c <;> obtain rfl := Host.Outcome.next.inj run
  case start p n => exact .inr (.inl ⟨p, n, rfl, rfl⟩)
  case powerOnReset | resetLineReset | supplyDipReset => exact .inl ⟨rfl, s.resetWith_state _⟩
  all_goals refine .inr (.inr ?_)
  case setp p n id first second => rw [goodFrame_setup, setpCommand_setupState]; simp
  case unstart p n => rw [goodFrame_setup, unstartCommand_setupState]; simp
  case getp p n id => rw [goodFrame_setup, getpCommand_state]; simp
  case read p n cls index => rw [goodFrame_setup, readCommand_state]; simp
  case force p n ch duty => rw [goodFrame_setup, forceCommand]; simp
  case forceRelease p n ch => rw [goodFrame_setup, forceReleaseCommand]; simp
  case nop | unknown => rw [goodFrame_setup]; simp [nopCommand, unknownCommand]
  case shortFrame | badCrc => rw [deadFrame_setup]
  case post | renew | drop | allow | vote | clearvalve | next | ack | enable => rw [goodFrame_setup]; simp
  all_goals simp

/-- Settles O59. -/
theorem onlyStartEntersRunAndOnlyResetLeavesIt : Obligations.OnlyStartEntersRunAndOnlyResetLeavesIt := by
  intro c s t run
  obtain ⟨reset, setup⟩ | ⟨p, n, rfl, rfl⟩ | same := exec_setupState run
  · refine ⟨fun _ on => ?_, fun _ _ => reset⟩
    have off : t.running = false := by simp [State.running, setup]
    rw [off] at on
    exact absurd on Bool.false_ne_true
  · have before : (s.frameArrives p n).running = s.running := State.running_congr (by simp)
    have votes (q : Port) : (s.frameArrives p n).startVote q = s.startVote q := State.startVote_congr (by simp) q
    have failures : (s.frameArrives p n).lowestFailure = s.lowestFailure := State.lowestFailure_congr (by simp)
    have after : (goodFrame p n 0x09#8 (startCommand p) s).running = (startCommand p (s.frameArrives p n)).state.running :=
      State.running_congr (by rw [goodFrame_setup])
    rw [after]
    obtain refused | ⟨setup, fresh, taken⟩ := startCommand_state p (s.frameArrives p n)
    · rw [refused, before]
      exact ⟨fun off on => absurd (off.symm.trans on) Bool.false_ne_true, fun on off => absurd (off.symm.trans on) Bool.false_ne_true⟩
    · rw [taken]
      refine ⟨fun _ on => ?_, fun on _ => absurd (setup.symm.trans (before.trans on)) Bool.false_ne_true⟩
      obtain ⟨others, passed⟩ := State.addVote_running setup on
      exact ⟨p, n, rfl, (votes p).symm.trans fresh, fun q other => (votes q).symm.trans (others q other), failures.symm.trans passed⟩
  · have running := State.running_congr same
    exact ⟨fun off on => absurd (off.symm.trans (running.symm.trans on)) Bool.false_ne_true,
      fun on off => absurd (off.symm.trans (running.trans on)) Bool.false_ne_true⟩

end Sys2Proof.Machine
end

section
/-!
PROOFS. What a guard's evaluation does (R125 to R130): to the zones, to the Demand Table and to the regime. And so what ends DORMANT.
-/

namespace Sys2Proof.Machine

section
variable (s : State) (z : Zone)

/-! ## The zones -/

/-- The zone's monitor after a trip (R127). -/
def ZoneMonitor.afterTrip (m : ZoneMonitor) : ZoneMonitor := { m with guard := .tripped, trips := min 255 (m.trips + 1) }

theorem State.tripAwake_zones : (s.tripAwake z).zones = (s.setZone z (s.zone z).afterTrip).zones := by
  simp [State.tripAwake, ZoneMonitor.afterTrip]

theorem State.tripAwake_zone (y : Zone) :
    (s.tripAwake z).zone y = if y = z then (s.zone z).afterTrip else s.zone y := by
  rw [State.zone_congr (s.tripAwake_zones z), State.zone_setZone]

theorem State.trip_zone (y : Zone) : (s.trip z).zone y = if y = z then (s.zone z).afterTrip else s.zone y := by
  have park (y : Zone) : (s.changeRegime .park).zone y = s.zone y := State.zone_congr (by simp) y
  unfold State.trip
  split
  · rw [State.zone_congr (s := (s.changeRegime .park).tripAwake z) (by simp), State.tripAwake_zone, park, park]
  · exact s.tripAwake_zone z y

theorem State.returnToMatch_zone (old : GuardAction) (y : Zone) :
    (s.returnToMatch z old).zone y = if y = z then { s.zone z with guard := .armed } else s.zone y := by
  rw [State.zone_congr (s := s.setZone z { s.zone z with guard := .armed }) (by simp [State.returnToMatch]), State.zone_setZone]

/-- What an evaluation comes to (R125): nothing, a trip, or a return to match. -/
theorem State.evaluate_cases :
    s.evaluate z = s ∧ ((s.zone z).guard = .armed → s.guardMatches z = true) ∧
        ((s.zone z).guard = .tripped → s.guardMatches z = false) ∨
      (s.zone z).guard = .armed ∧ s.guardMatches z = false ∧ s.evaluate z = s.trip z ∨
      (s.zone z).guard = .tripped ∧ s.guardMatches z = true ∧ s.evaluate z = s.returnToMatch z (s.guardAction z) := by
  unfold State.evaluate
  cases guard : (s.zone z).guard <;> cases hit : s.guardMatches z <;> simp

/-- An evaluation of one zone's guard leaves the other zones (R125). -/
theorem State.evaluate_zone_of_ne {y : Zone} (other : y ≠ z) : (s.evaluate z).zone y = s.zone y := by
  obtain ⟨e, -⟩ | ⟨-, -, e⟩ | ⟨-, -, e⟩ := s.evaluate_cases z <;> rw [e]
  · rw [State.trip_zone, if_neg other]
  · rw [State.returnToMatch_zone, if_neg other]

theorem State.withConditions_zone_of_ne (c : Conditions) {y : Zone} (other : y ≠ z) :
    (s.withConditions z c).zone y = s.zone y := by
  unfold State.withConditions
  split
  · rfl
  · rw [State.evaluate_zone_of_ne _ _ other, State.zone_setZone, if_neg other]

/-! ## The regime -/

@[simp] theorem State.dormantUpkeep_regime_regime : s.dormantUpkeep.regime.regime = s.regime.regime := by
  rw [State.dormantUpkeep_regime]

@[simp] theorem State.freeSlot_regime_regime (i : Fin 15) : (s.freeSlot i).regime.regime = s.regime.regime :=
  State.dormantUpkeep_regime_regime _

@[simp] theorem State.writeDemand_regime_regime (i : Fin 15) (d : Demand) (keep : Bool) :
    (s.writeDemand i d keep).regime.regime = s.regime.regime :=
  State.dormantUpkeep_regime_regime _

@[simp] theorem State.endSynth_regime_regime (old : GuardAction) : (s.endSynth z old).regime.regime = s.regime.regime := by
  unfold State.endSynth State.withdrawSynthetic
  split
  · split <;> simp
  · rfl
  · rfl

@[simp] theorem State.tripAction_regime_regime : (s.tripAction z).regime.regime = s.regime.regime := by
  unfold State.tripAction State.createSynthetic
  split <;> simp

@[simp] theorem State.tripAwake_regime_regime : (s.tripAwake z).regime.regime = s.regime.regime := by
  simp [State.tripAwake]

@[simp] theorem State.returnToMatch_regime_regime (old : GuardAction) :
    (s.returnToMatch z old).regime.regime = s.regime.regime := by
  simp [State.returnToMatch]

/-- A trip ends DORMANT (R80, R127). -/
theorem State.trip_awake : (s.trip z).regime.regime ≠ .dormant := by
  unfold State.trip
  split
  · rw [ne_eq, State.resolve_dormant_iff, State.tripAwake_regime_regime, State.changeRegime_to]
    exact fun h => Regime.noConfusion h
  · next awake => rwa [State.tripAwake_regime_regime]

end

/-! ## What ends DORMANT -/

/-- What an event that reaches one zone's guard does about DORMANT: it never begins it, and ends it by a trip of that guard alone. -/
structure State.WokenBy (z : Zone) (s t : State) : Prop where
  awake : s.regime.regime ≠ .dormant → t.regime.regime ≠ .dormant
  tripped : s.regime.regime = .dormant → t.regime.regime ≠ .dormant →
    (s.zone z).guard = .armed ∧ (t.zone z).guard = .tripped
  others : ∀ y, y ≠ z → t.zone y = s.zone y

/-- Every guard of the first state stands in the second as it did there. -/
theorem State.WokenBy.congr {z : Zone} {s s' t : State} (h : State.WokenBy z s t) (regime : s.regime.regime = s'.regime.regime)
    (own : (s.zone z).guard = (s'.zone z).guard) (others : ∀ y, y ≠ z → s.zone y = s'.zone y) : State.WokenBy z s' t :=
  ⟨fun awake => h.awake (regime ▸ awake), fun asleep woken => own ▸ h.tripped (regime.trans asleep) woken,
    fun y other => (h.others y other).trans (others y other)⟩

/-- An event that leaves regime and zones alone reaches no guard. -/
theorem State.WokenBy.of_same {s t : State} (regime : t.regime.regime = s.regime.regime) (zones : t.zones = s.zones) (z : Zone) :
    State.WokenBy z s t :=
  ⟨fun awake => regime ▸ awake, fun asleep woken => absurd (regime.trans asleep) woken, fun y _ => State.zone_congr zones y⟩

section
variable (s : State) (z : Zone)

theorem State.evaluate_wokenBy : State.WokenBy z s (s.evaluate z) := by
  obtain ⟨e, -⟩ | ⟨armed, -, e⟩ | ⟨-, -, e⟩ := s.evaluate_cases z
  · rw [e]
    exact .of_same rfl rfl z
  · refine ⟨fun _ => e ▸ s.trip_awake z, fun _ _ => ⟨armed, ?_⟩, fun y other => s.evaluate_zone_of_ne z other⟩
    rw [e, State.trip_zone, if_pos rfl]
    rfl
  · have regime : (s.evaluate z).regime.regime = s.regime.regime := by rw [e, State.returnToMatch_regime_regime]
    exact ⟨fun awake => regime ▸ awake, fun asleep woken => absurd (regime.trans asleep) woken,
      fun y other => s.evaluate_zone_of_ne z other⟩

theorem State.withConditions_wokenBy (c : Conditions) : State.WokenBy z s (s.withConditions z c) := by
  unfold State.withConditions
  split
  · exact .of_same rfl rfl z
  · refine (State.evaluate_wokenBy _ z).congr rfl ?_ fun y other => ?_
    · rw [State.zone_setZone, if_pos rfl]
    · rw [State.zone_setZone, if_neg other]

/-- A change to another block, then new conditions for a zone. -/
theorem State.withConditions_wokenBy_of {s t : State} (regime : t.regime = s.regime) (zones : t.zones = s.zones) (z : Zone)
    (c : Conditions) : State.WokenBy z s (t.withConditions z c) :=
  (t.withConditions_wokenBy z c).congr (by rw [regime]) (by rw [State.zone_congr zones]) fun y _ => State.zone_congr zones y

theorem convertChannel_wokenBy (ch : TempCh) (code : BitVec 12) : ∃ z, State.WokenBy z s (convertChannel s ch code) := by
  unfold convertChannel State.refreshTemperature
  dsimp only
  split
  next z _ => exact ⟨z, State.withConditions_wokenBy_of (by simp) (by simp) z _⟩
  next => exact ⟨.motor, .of_same (by simp) (by simp) _⟩

theorem expireHold_wokenBy (ch : TempCh) : ∃ z, State.WokenBy z s (expireHold s ch) := by
  unfold expireHold State.refreshBlind
  dsimp only
  split
  · split
    next z _ => exact ⟨z, State.withConditions_wokenBy_of (by simp) (by simp) z _⟩
    next => exact ⟨.motor, .of_same (by simp) (by simp) _⟩
  · exact ⟨.motor, .of_same rfl rfl _⟩

theorem State.updateFlow_wokenBy (l : Loop) (c : FlowChannel) : State.WokenBy (loopZone l) s (s.updateFlow l c) := by
  unfold State.updateFlow State.refreshStall
  split
  · exact .of_same (by simp) (by simp) _
  · exact State.withConditions_wokenBy_of (by simp) (by simp) _ _

theorem expireStall_wokenBy (l : Loop) : State.WokenBy (loopZone l) s (expireStall s l) := by
  unfold expireStall
  split
  · exact s.updateFlow_wokenBy l _
  · exact .of_same rfl rfl _

theorem State.judgeLoop_wokenBy (l : Loop) (settled : Bool) : State.WokenBy (loopZone l) s (s.judgeLoop l settled) := by
  unfold State.judgeLoop
  dsimp only
  split <;> exact State.withConditions_wokenBy_of (by simp) (by simp) _ _

end

/-- A cycle never begins DORMANT, and ends it by a guard's trip alone (R122). -/
theorem State.runCycle_woken (s : State) :
    (s.regime.regime ≠ .dormant → s.runCycle.regime.regime ≠ .dormant) ∧
      (s.regime.regime = .dormant → s.runCycle.regime.regime ≠ .dormant →
        ∃ z, (s.zone z).guard = .armed ∧ (s.runCycle.zone z).guard = .tripped) := by
  have regime : s.atJudgement.regime = s.regime := by simp [State.atJudgement]
  have zones : s.atJudgement.zones = s.zones := by simp [State.atJudgement]
  have motor : State.WokenBy .motor s (s.atJudgement.judgeLoop .motor (s.valve.state == .settled)) :=
    (s.atJudgement.judgeLoop_wokenBy .motor _).congr (by rw [regime]) (by rw [State.zone_congr zones])
      fun y _ => State.zone_congr zones y
  have battery : State.WokenBy .battery (s.atJudgement.judgeLoop .motor (s.valve.state == .settled)) s.runCycle := by
    rw [State.runCycle_eq_judgeLoops]
    exact State.judgeLoop_wokenBy _ .battery _
  generalize s.atJudgement.judgeLoop .motor (s.valve.state == .settled) = u at motor battery
  refine ⟨fun awake => battery.awake (motor.awake awake), fun asleep woken => ?_⟩
  by_cases still : u.regime.regime = .dormant
  · obtain ⟨armed, tripped⟩ := battery.tripped still woken
    exact ⟨.battery, (congrArg ZoneMonitor.guard (motor.others .battery (by decide))).symm.trans armed, tripped⟩
  · obtain ⟨armed, tripped⟩ := motor.tripped asleep still
    exact ⟨.motor, armed, (congrArg ZoneMonitor.guard (battery.others .motor (by decide))).trans tripped⟩

end Sys2Proof.Machine
end

section
/-!
PROOFS. Who begins and who ends DORMANT (R79, R80): command by command.
-/

namespace Sys2Proof.Machine

/-! ## The commands of a frame, which find the part awake -/

section
variable {s : State} (awake : s.regime.regime ≠ .dormant)
include awake

theorem postCommand_awake (p : Port) (slot sense tier weight : Byte) (asked : Word) (lease : Byte) :
    (postCommand p slot sense tier weight asked lease s).state.regime.regime ≠ .dormant := by
  have same : (postCommand p slot sense tier weight asked lease s).state.regime.regime = s.regime.regime := by
    unfold postCommand State.refusePost State.takePost
    dsimp only
    repeat' split
    all_goals simp
  rwa [same]

theorem dropCommand_awake (p : Port) (slots : Byte) : (dropCommand p slots s).state.regime.regime ≠ .dormant := by
  have same : (dropCommand p slots s).state.regime.regime = s.regime.regime := by
    unfold dropCommand slotAnswer
    split
    · rfl
    split
    · rfl
    · exact foldl_keeps (fun t : State => t.regime.regime) _ (fun t k => t.freeSlot_regime_regime _) _ s
  rwa [same]

theorem voteCommand_awake (p : Port) (v : Byte) : (voteCommand p v s).state.regime.regime ≠ .dormant := by
  rcases voteCommand_state p v s with e | ⟨w, e⟩ | ⟨w, e⟩ <;> rw [e]
  · exact awake
  · unfold State.takeVoteM
    dsimp only
    split
    · exact awake
    · rwa [ne_eq, State.resolveInRun_dormant_iff]
  · unfold State.takeVoteB
    dsimp only
    split
    · exact awake
    · rwa [ne_eq, State.resolveInRun_dormant_iff]

theorem State.guardWritten_awake (z : Zone) (old : GuardAction) : (s.guardWritten z old).regime.regime ≠ .dormant := by
  unfold State.guardWritten
  repeat' split
  · exact awake
  · exact awake
  · exact s.trip_awake z
  · rwa [State.returnToMatch_regime_regime]
  · exact s.trip_awake z
  · rw [State.endSynth_regime_regime]
    exact s.trip_awake z

theorem State.channelsToInit_awake : s.channelsToInit.regime.regime ≠ .dormant := by
  unfold State.channelsToInit State.refreshInit
  exact (State.withConditions_wokenBy _ .cabin _).awake
    ((State.withConditions_wokenBy _ .battery _).awake ((State.withConditions_wokenBy _ .motor _).awake awake))

theorem State.takeWrite_awake (p : Port) (q : Param) (j : Judged) : (s.takeWrite p q j).regime.regime ≠ .dormant := by
  unfold State.takeWrite State.writeInRun State.writeInSetup
  dsimp only
  have stored : ((s.storeParam p q j.value j.second).lowerCompMin p q).regime.regime ≠ .dormant := by simpa using awake
  split
  · split
    · exact State.guardWritten_awake stored _ _
    · exact stored
  · have reached : (if q.isConvPt then ((s.storeParam p q j.value j.second).lowerCompMin p q).channelsToInit
        else (s.storeParam p q j.value j.second).lowerCompMin p q).regime.regime ≠ .dormant := by
      split
      · exact State.channelsToInit_awake stored
      · exact stored
    split <;> simpa using reached

theorem setpCommand_awake (p : Port) (id : Byte) (first second : Word) :
    (setpCommand p id first second s).state.regime.regime ≠ .dormant := by
  rcases setpCommand_state p id first second s with e | ⟨q, j, -, -, -, e⟩ <;> rw [e]
  · exact awake
  · exact State.takeWrite_awake awake p q j

theorem State.armGuard_awake (z : Zone) : (s.armGuard z).regime.regime ≠ .dormant := (State.evaluate_wokenBy _ z).awake awake

end

/-- RUN is entered in another regime than DORMANT (R85). -/
theorem State.regimeRunEntry_awake (s : State) : s.regimeRunEntry.regime.regime ≠ .dormant := by
  unfold State.regimeRunEntry
  dsimp only
  simp [State.resolve_dormant_iff]

theorem State.enterRun_awake (s : State) : s.enterRun.regime.regime ≠ .dormant := by
  have entered (t : State) : t.regimeRunEntry.allocatorRunEntry.regime.regime ≠ .dormant := t.regimeRunEntry_awake
  have armed := State.armGuard_awake (State.armGuard_awake (State.armGuard_awake (entered
    { s with setup := { s.setup with state := .run, reason := .noFault, faultId := 0 } }) .motor) .battery) .cabin
  simpa [State.enterRun] using armed

theorem startCommand_awake {s : State} (awake : s.regime.regime ≠ .dormant) (p : Port) :
    (startCommand p s).state.regime.regime ≠ .dormant := by
  rcases startCommand_state p s with e | ⟨-, -, e⟩ <;> rw [e]
  · exact awake
  · unfold State.addVote State.validate
    dsimp only
    split
    · split
      · exact State.enterRun_awake _
      · simpa using awake
    · exact awake

/-! ## Every command -/

theorem goodFrame_awake (p : Port) (n : Nat) (echo : Byte) {command : State → Answer} (s : State)
    (keeps : ∀ {t : State}, t.regime.regime ≠ .dormant → (command t).state.regime.regime ≠ .dormant) :
    (goodFrame p n echo command s).regime.regime ≠ .dormant := by
  simpa [goodFrame] using keeps (s.frameArrives_not_dormant p n)

/-- A good frame leaves the part awake (R80). -/
theorem exec_goodFrame_awake {c : Instr} {s t : State} (run : exec c s = .next t) (good : c.isGoodFrame = true) :
    t.regime.regime ≠ .dormant := by
  cases c <;> obtain rfl := Host.Outcome.next.inj run
  case nop p n => exact goodFrame_awake p n _ s id
  case post p n slot sense tier weight asked lease =>
    exact goodFrame_awake p n _ s fun h => postCommand_awake h p slot sense tier weight asked lease
  case renew p n slots => exact goodFrame_awake p n _ s fun h => by simpa using h
  case drop p n slots => exact goodFrame_awake p n _ s fun h => dropCommand_awake h p slots
  case allow p n value lease => exact goodFrame_awake p n _ s fun h => by simpa using h
  case vote p n v => exact goodFrame_awake p n _ s fun h => voteCommand_awake h p v
  case setp p n id first second => exact goodFrame_awake p n _ s fun h => setpCommand_awake h p id first second
  case getp p n id => exact goodFrame_awake p n _ s fun {t} h => by rwa [getpCommand_state]
  case start p n => exact goodFrame_awake p n _ s fun h => startCommand_awake h p
  case unstart p n => exact goodFrame_awake p n _ s fun h => by simpa using h
  case force p n ch duty => exact goodFrame_awake p n _ s fun h => by simpa [forceCommand] using h
  case forceRelease p n ch => exact goodFrame_awake p n _ s fun h => by simpa [forceReleaseCommand] using h
  case clearvalve p n => exact goodFrame_awake p n _ s fun h => by simpa using h
  case read p n cls index => exact goodFrame_awake p n _ s fun {t} h => by rwa [readCommand_state]
  case next p n => exact goodFrame_awake p n _ s fun h => by simpa using h
  case ack p n set => exact goodFrame_awake p n _ s fun h => by simpa using h
  case enable p n set => exact goodFrame_awake p n _ s fun h => by simpa using h
  case unknown p n code => exact goodFrame_awake p n _ s id
  all_goals exact absurd good Bool.false_ne_true

theorem riseHvReady_awake (s : State) : (riseHvReady s).regime.regime ≠ .dormant := by
  unfold riseHvReady
  dsimp only
  rw [ne_eq, State.resolveInRun_dormant_iff]
  exact State.wake_awake _

theorem State.resetWith_awake (s : State) (r : ResetRecord) : (s.resetWith r).regime.regime ≠ .dormant := by
  simp [State.resetWith, State.afterReset]

/-- Nothing wakes the part but by a trip, and nothing puts it to sleep. -/
def State.Woken (s t : State) : Prop :=
  (s.regime.regime ≠ .dormant → t.regime.regime ≠ .dormant) ∧
    (s.regime.regime = .dormant → t.regime.regime ≠ .dormant → ∃ z, (s.zone z).guard = .armed ∧ (t.zone z).guard = .tripped)

theorem State.WokenBy.woken {z : Zone} {s t : State} (h : State.WokenBy z s t) : State.Woken s t :=
  ⟨h.awake, fun asleep woken => ⟨z, h.tripped asleep woken⟩⟩

theorem State.Woken.of_iff {s t : State} (h : t.regime.regime = .dormant ↔ s.regime.regime = .dormant) : State.Woken s t :=
  ⟨fun awake => mt h.mp awake, fun asleep woken => absurd (h.mpr asleep) woken⟩

theorem State.Woken.of_eq {s t : State} (h : t.regime = s.regime) : State.Woken s t := .of_iff (by rw [h])

theorem expirePrime_dormant_iff (s : State) : (expirePrime s).regime.regime = .dormant ↔ s.regime.regime = .dormant := by
  unfold expirePrime
  split
  next due =>
    split
    · rw [State.changeRegime_to, due.1]
      exact iff_of_false (fun h => Regime.noConfusion h) (fun h => Regime.noConfusion h)
    · exact s.resolve_dormant_iff
  next => exact Iff.rfl

theorem expireLink_dormant_iff (s : State) (p : Port) : (expireLink s p).regime.regime = .dormant ↔ s.regime.regime = .dormant := by
  unfold expireLink
  split
  · rw [State.presenceChanged_dormant_iff]
    simp
  · exact Iff.rfl

theorem expireLease_dormant_iff (s : State) (z : Zone) (k : Fin 4) :
    (expireLease s z k).regime.regime = .dormant ↔ s.regime.regime = .dormant := by
  unfold expireLease
  split <;> simp

theorem expireCycle_woken (s : State) : State.Woken s (expireCycle s) := by
  unfold expireCycle
  split
  · exact s.runCycle_woken
  · exact .of_eq rfl

/-- The dormant timer puts the part to sleep, or does nothing. -/
theorem expireDormant_of_dormant {s : State} (asleep : s.regime.regime = .dormant) :
    (expireDormant s).regime.regime = .dormant := by
  unfold expireDormant
  split
  · exact State.changeRegime_to ..
  · exact asleep

/-- The commands that are no good frame, no rise of HV_READY, no reset and not the dormant timer. -/
theorem exec_woken {c : Instr} {s t : State} (run : exec c s = .next t) (frame : c.isGoodFrame = false) (reset : c.isReset = false)
    (rise : c ≠ .hvReadyRise) (timer : c ≠ .dormantTimerExpiry) : State.Woken s t := by
  cases c <;> obtain rfl := Host.Outcome.next.inj run
  case shortFrame | badCrc => exact .of_eq (by simp [deadFrame])
  case leaseExpiry z k => exact .of_iff (expireLease_dormant_iff s z k)
  case cycleExpiry => exact expireCycle_woken s
  case allowanceLeaseExpiry | dwellExpiry | travelTimeout | retryAttempt | valveAtAsserted | valveAtDeasserted | periodBoundary =>
    exact .of_eq (by simp)
  case hvReadyFall => exact .of_iff (State.resolveInRun_dormant_iff _)
  case primeTimerExpiry => exact .of_iff (expirePrime_dormant_iff s)
  case linkTimerExpiry p => exact .of_iff (expireLink_dormant_iff s p)
  case conversion ch code => exact (convertChannel_wokenBy s ch code).choose_spec.woken
  case holdExpiry ch => exact (expireHold_wokenBy s ch).choose_spec.woken
  case flowEdge l label => exact (s.updateFlow_wokenBy l _).woken
  case stallExpiry l => exact (expireStall_wokenBy s l).woken
  case hvReadyRise => exact absurd rfl rise
  case dormantTimerExpiry => exact absurd rfl timer
  case powerOnReset | resetLineReset | supplyDipReset => exact absurd reset.symm Bool.false_ne_true
  all_goals exact absurd frame.symm Bool.false_ne_true

/-- A reset leaves the part in SETUP, which has no regime. -/
theorem exec_reset_awake {c : Instr} {s t : State} (run : exec c s = .next t) (reset : c.isReset = true) :
    t.regime.regime ≠ .dormant := by
  cases c <;> obtain rfl := Host.Outcome.next.inj run
  case powerOnReset | resetLineReset | supplyDipReset => exact s.resetWith_awake _
  all_goals exact absurd reset Bool.false_ne_true

/-- Settles O60. -/
theorem onlyTheNamedEventsEndDormant : Obligations.OnlyTheNamedEventsEndDormant := by
  intro c s t run
  have rise (h : c = .hvReadyRise) : t.regime.regime ≠ .dormant := by
    subst h
    obtain rfl := Host.Outcome.next.inj run
    exact riseHvReady_awake s
  have wakes : c.isGoodFrame = true ∨ c = .hvReadyRise → t.regime.regime ≠ .dormant := fun h =>
    h.elim (exec_goodFrame_awake run) rise
  have timer (h : c = .dormantTimerExpiry) (asleep : s.regime.regime = .dormant) : t.regime.regime = .dormant := by
    subst h
    obtain rfl := Host.Outcome.next.inj run
    exact expireDormant_of_dormant asleep
  by_cases named : c.isGoodFrame = true ∨ c = .hvReadyRise ∨ c.isReset = true
  · have awake : t.regime.regime ≠ .dormant := by
      obtain good | rises | reset := named
      · exact wakes (.inl good)
      · exact wakes (.inr rises)
      · exact exec_reset_awake run reset
    exact ⟨fun _ asleep => absurd asleep awake, fun _ _ => by tauto, fun _ => wakes⟩
  · simp only [not_or, Bool.not_eq_true] at named
    obtain ⟨frame, rises, reset⟩ := named
    refine ⟨fun awake asleep => ?_, fun asleep woken => .inr (.inr (.inr ?_)), fun _ => wakes⟩
    · by_contra other
      exact (exec_woken run frame reset rises other).1 awake asleep
    · exact (exec_woken run frame reset rises fun h => woken (timer h asleep)).2 asleep woken

end Sys2Proof.Machine
end

section
/-!
PROOFS. What every step keeps of the Allocator (R22, R43 to R48).
-/

namespace Sys2Proof.Machine

/-! ## The allowance and the grant set of a cycle -/

theorem tickTimer_isSome (t : Config.Timer) : (tickTimer t).isSome = t.isSome := by
  cases t <;> rfl

/-- What a cycle leaves in the Allocator (R22, R45, R48). -/
theorem State.runCycle_alloc (s : State) :
    s.runCycle.alloc =
      { s.cycleBegun.alloc with
        seq := s.alloc.seq + 1, published := some s.cycleBegun.grantSet, previous := s.alloc.published } := by
  have old : s.cycleBegun.alloc.published = s.alloc.published ∧ s.cycleBegun.alloc.seq = s.alloc.seq := by
    unfold State.cycleBegun State.settleAllowance State.nextPeriod
    dsimp only
    split <;> simp
  have seq : s.cycleBegun.grantSet.seq = s.alloc.seq + 1 := congrArg (· + 1) old.2
  have published : s.atPublication.alloc =
      { s.cycleBegun.alloc with
        seq := s.cycleBegun.grantSet.seq, published := some s.cycleBegun.grantSet
        previous := s.cycleBegun.alloc.published } := by
    simp [State.atPublication, State.publish_alloc]
  rw [seq, old.1] at published
  rw [State.runCycle_eq_judgeLoops, State.atJudgement_eq, ← published]
  simp [State.judgeLoops]

/-- As a cycle begins, its period and the allowance settled (R22, R45). -/
theorem State.cycleBegun_alloc (s : State) :
    s.cycleBegun.alloc =
      match s.alloc.pendingAllow with
      | some (v, l) =>
        { s.alloc with
          cycleLength := s.cyclePeriod, cycleLeft := some s.cyclePeriod
          inForce := .granted v, allowLease := some (seconds l), pendingAllow := none }
      | none => { s.alloc with cycleLength := s.cyclePeriod, cycleLeft := some s.cyclePeriod } := by
  unfold State.cycleBegun State.settleAllowance State.nextPeriod
  dsimp only
  cases s.alloc.pendingAllow <;> rfl

/-- RUN entry as far as the Regime Controller (R84, R85). -/
def State.enteringRun (s : State) : State :=
  State.regimeRunEntry { s with setup := { s.setup with state := .run, reason := .noFault, faultId := 0 } }

/-- RUN entry with the three guards evaluated (R126). -/
def State.guardsArmed (s : State) : State :=
  ((s.enteringRun.allocatorRunEntry.armGuard .motor).armGuard .battery).armGuard .cabin

theorem State.enterRun_eq (s : State) : s.enterRun = s.guardsArmed.clearForces.notifyAll .setup := rfl

/-! ## What keeps the Allocator sound -/

section
variable {s t : State} (h : s.AllocOk)
include h

/-- A change to other blocks, the setup state left. -/
theorem State.AllocOk.of_running (alloc : t.alloc = s.alloc) (running : t.running = s.running) : t.AllocOk := by
  constructor <;> simp only [alloc, running]
  exacts [h.cycling, h.inForce, h.leased, h.granted, h.waiting, h.published, h.previous, h.setupHasNone]

/-- The cycle timer has run out in RUN alone (R22). -/
theorem State.AllocOk.running_of_due (due : ranOut s.alloc.cycleLeft = true) : s.running = true := by
  rw [← h.cycling]
  cases left : s.alloc.cycleLeft with
  | none => simp [left, ranOut] at due
  | some n => rfl

/-- The allowance as a cycle settles it (R45). -/
theorem State.AllocOk.cycleBegun (run : s.running = true) : s.cycleBegun.AllocOk := by
  have same : s.cycleBegun.running = true := (State.running_congr (by simp)).trans run
  have begun := s.cycleBegun_alloc
  cases pending : s.alloc.pendingAllow with
  | none =>
    rw [pending] at begun
    constructor <;> rw [begun] <;> simp only [same]
    · rfl
    · exact run ▸ h.inForce
    · exact h.leased
    · exact h.granted
    · exact fun v l waits => absurd (pending.symm.trans waits) (by simp)
    · exact h.published
    · exact h.previous
    · exact fun off => absurd off (by decide)
  | some waiting =>
    obtain ⟨v, l⟩ := waiting
    rw [pending] at begun
    obtain ⟨-, most, -, -⟩ := h.waiting v l pending
    constructor <;> rw [begun] <;> simp only [same]
    · rfl
    · simp
    · simp
    · rintro w e
      obtain rfl := Allowance.granted.inj e
      exact most
    · simp
    · exact h.published
    · exact h.previous
    · exact fun off => absurd off (by decide)

theorem State.AllocOk.runCycle (run : s.running = true) : s.runCycle.AllocOk := by
  have begun := h.cycleBegun run
  have same : s.runCycle.running = s.cycleBegun.running := State.running_congr (by simp)
  have on : s.cycleBegun.running = true := (State.running_congr (by simp)).trans run
  constructor <;> rw [State.runCycle_alloc] <;> simp only [same]
  · exact begun.cycling
  · exact begun.inForce
  · exact begun.leased
  · exact begun.granted
  · exact begun.waiting
  · rintro g e
    obtain rfl := Option.some.inj e
    refine ⟨s.cycleBegun.grantSet_ok, congrArg (· + 1) ?_⟩
    rw [State.cycleBegun_alloc]
    split <;> rfl
  · intro g e
    exact ⟨(h.published g e).1, by simp⟩
  · rw [on]
    exact fun off => absurd off (by decide)

theorem State.AllocOk.expireAllowance : (expireAllowance s).AllocOk := by
  unfold Machine.expireAllowance
  split
  next due =>
    have leased : s.alloc.allowLease.isSome = true := by
      cases left : s.alloc.allowLease with
      | none => simp [left, ranOut] at due
      | some n => rfl
    obtain ⟨v, force⟩ := h.leased.mp leased
    have run : s.running = true := by
      by_contra off
      have none := h.inForce.mpr (Bool.eq_false_iff.mpr off)
      rw [force] at none
      exact Allowance.noConfusion none
    have lapsed : State.AllocOk { s with alloc := { s.alloc with inForce := .safe, allowLease := none } } := by
      constructor
      · exact h.cycling
      · exact iff_of_false (fun e => Allowance.noConfusion e) (fun off => Bool.false_ne_true (off.symm.trans run))
      · exact iff_of_false Bool.false_ne_true (fun ⟨_, e⟩ => Allowance.noConfusion e)
      · exact fun _ e => Allowance.noConfusion e
      · exact h.waiting
      · exact h.published
      · exact h.previous
      · exact h.setupHasNone
    exact lapsed.congr (by simp) (by simp)
  next => exact h

theorem State.AllocOk.allowCommand (p : Port) (value : Word) (lease : Byte) : (allowCommand p value lease s).state.AllocOk := by
  unfold Machine.allowCommand
  dsimp only
  split
  · exact h
  next setup =>
  have run : s.running = true := by simpa using setup
  split
  · exact h
  · constructor
    · exact h.cycling
    · exact h.inForce
    · exact h.leased
    · exact h.granted
    · intro v l e
      obtain ⟨rfl, rfl⟩ := Prod.mk.inj (Option.some.inj e)
      exact ⟨run, (clampNat_bounds (by decide) _).2, clampNat_bounds (by decide) _⟩
    · exact h.published
    · exact h.previous
    · exact h.setupHasNone

omit h in
/-- The Allocator's part of entry to RUN (R22, R43). -/
theorem State.enterRun_alloc (s : State) : s.enterRun.alloc =
    { s.alloc with
      cycleLength := s.enteringRun.cyclePeriod, cycleLeft := some s.enteringRun.cyclePeriod
      inForce := .safe, allowLease := none, pendingAllow := none } := by
  have same : s.enteringRun.alloc = s.alloc := by simp [State.enteringRun]
  rw [← same]
  simp [State.enterRun, State.allocatorRunEntry, State.enteringRun]

/-- Entry to RUN: the cycle timer starts and SAFE is in force (R22, R43). -/
theorem State.AllocOk.enterRun (setup : s.running = false) : s.enterRun.AllocOk := by
  have on : s.enterRun.running = true := by rw [State.running, State.enterRun_state]; rfl
  have none := h.setupHasNone setup
  constructor <;> rw [s.enterRun_alloc] <;> simp only [on]
  · rfl
  · exact iff_of_false (fun e => Allowance.noConfusion e) (by decide)
  · exact iff_of_false Bool.false_ne_true (fun ⟨_, e⟩ => Allowance.noConfusion e)
  · exact fun _ e => Allowance.noConfusion e
  · simp
  · exact h.published
  · exact h.previous
  · exact fun off => absurd off (by decide)

theorem State.AllocOk.startCommand (p : Port) : (startCommand p s).state.AllocOk := by
  rcases startCommand_state p s with e | ⟨setup, -, e⟩ <;> rw [e]
  · exact h
  have voted : (s.setVote p true).AllocOk := h.of_running (by simp) (State.running_congr rfl)
  unfold State.addVote State.validate
  dsimp only
  split
  · split
    · exact voted.enterRun setup
    · exact voted.of_running (by simp) (State.running_congr (by simp [State.failValidation]))
  · exact voted

theorem State.AllocOk.tick : s.tick.AllocOk := by
  constructor
  · exact (tickTimer_isSome _).trans h.cycling
  · exact h.inForce
  · exact (iff_of_eq (congrArg (· = true) (tickTimer_isSome _))).trans h.leased
  · exact h.granted
  · exact h.waiting
  · exact h.published
  · exact h.previous
  · exact h.setupHasNone

end

theorem State.AllocOk.resetWith (s : State) (r : ResetRecord) : (s.resetWith r).AllocOk := by
  have fresh : (State.afterReset r s.hvReady s.valveAt #v[(s.port .M).selected, (s.port .B).selected, (s.port .C).selected]
      s.pending s.timeBase).AllocOk := by
    constructor <;> simp [State.afterReset, State.running]
  exact fresh.congr (by simp [State.resetWith]) (by simp [State.resetWith])

theorem allocOk_kept : Kept State.AllocOk where
  pending _ h := h.congr rfl rfl
  tick h := h.tick
  reset r _ := .resetWith _ r
  shiftOut _ _ h := h.congr (by simp) (by simp)
  stage _ _ h := h.congr (by simp) (by simp)
  arrives _ _ h := h.congr (by simp) (by simp)
  post _ _ _ _ _ _ _ _ h := h.congr (by simp) (by simp)
  renew _ _ h := h.congr (by simp) (by simp)
  drop _ _ h := h.congr (by simp) (by simp)
  allow p value lease h := h.allowCommand p value lease
  vote _ _ _ h := h.congr (by simp) (by simp)
  setp p id first second h := h.of_running (by simp) (State.running_congr (setpCommand_setupState p id first second _))
  start p h := h.startCommand p
  unstart p h := h.of_running (by simp) (State.running_congr (unstartCommand_setupState p _))
  force _ _ h := h.congr (by simp [forceCommand]) (by simp [forceCommand])
  forceRelease _ h := h.congr (by simp [forceReleaseCommand]) (by simp [forceReleaseCommand])
  clearvalve h := h.congr (by simp) (by simp)
  next _ h := h.congr (by simp) (by simp)
  ack _ _ h := h.congr (by simp) (by simp)
  enable _ _ h := h.congr (by simp) (by simp)
  leaseExpiry _ _ h := h.congr (by simp) (by simp)
  cycleExpiry {s} h := by
    unfold expireCycle
    split
    next due => exact h.runCycle (h.running_of_due due)
    next => exact h
  allowanceLeaseExpiry h := h.expireAllowance
  dwellExpiry h := h.congr (by simp) (by simp)
  travelTimeout h := h.congr (by simp) (by simp)
  retryAttempt h := h.congr (by simp) (by simp)
  valveAtAsserted h := h.congr (by simp) (by simp)
  valveAtDeasserted h := h.congr (by simp) (by simp)
  hvReadyRise h := h.congr (by simp) (by simp)
  hvReadyFall h := h.congr (by simp) (by simp)
  primeTimerExpiry h := h.congr (by simp) (by simp)
  dormantTimerExpiry h := h.congr (by simp) (by simp)
  linkTimerExpiry _ h := h.congr (by simp) (by simp)
  conversion _ _ h := h.congr (by simp) (by simp)
  holdExpiry _ h := h.congr (by simp) (by simp)
  flowEdge _ h := h.congr (by simp) (by simp)
  stallExpiry _ h := h.congr (by simp) (by simp)
  periodBoundary _ h := h.congr (by simp) (by simp)

/-- Settles O55. -/
theorem stepsKeepTheAllocatorSound : Obligations.StepsKeepTheAllocatorSound := fun _ _ run h => allocOk_kept.step run h

end Sys2Proof.Machine
end

section
/-!
PROOFS. What every step keeps of the Regime Controller (R70 to R86): the regime is the one its inputs resolve to, and the timers
follow the regime and the Demand Table.
-/

namespace Sys2Proof.Machine

/-! ## The two halves of a sound Regime Controller -/

/-- The regime as its inputs resolve it (R73, R74, R81). -/
structure State.VotesOk (s : State) : Prop where
  setupHasNone : s.regime.regime = .noRegime ↔ s.running = false
  charging : s.running = true → (s.chargeCondition = true ↔ s.regime.regime = .priming ∨ s.regime.regime = .charge)
  driving : s.running = true → (s.regime.regime = .drive ↔ s.chargeCondition = false ∧ s.driveVote = true)
  pending : s.regime.chargePending = (s.running && s.chargeVote && !s.hvReady)

/-- The timers as the regime and the Demand Table start and stop them (R75, R78, R79). -/
structure State.TimersOk (s : State) : Prop where
  prime : s.regime.prime.isSome = true ↔ s.regime.regime = .priming
  dormantTimer : s.regime.dormant.isSome = true ↔ s.regime.regime = .park ∧ s.tableEmpty = true
  dormantEmpty : s.regime.regime = .dormant → s.tableEmpty = true

section
variable {s t : State}

theorem State.RegimeOk.votes (h : s.RegimeOk) : s.VotesOk := ⟨h.setupHasNone, h.charging, h.driving, h.pending⟩

theorem State.RegimeOk.timers (h : s.RegimeOk) : s.TimersOk := ⟨h.prime, h.dormantTimer, h.dormantEmpty⟩

theorem State.RegimeOk.of_halves (votes : s.VotesOk) (timers : s.TimersOk) : s.RegimeOk :=
  ⟨votes.setupHasNone, votes.charging, votes.driving, votes.pending, timers.prime, timers.dormantTimer, timers.dormantEmpty⟩

/-- Nothing that a resolution reads has changed, nor what it gave: at most the dormant timer, and the Demand Table. -/
structure State.Steady (s t : State) : Prop where
  regime : t.regime = { s.regime with dormant := t.regime.dormant }
  presence : ∀ p, hasVote p = true → (t.port p).presence = (s.port p).presence
  hvReady : t.hvReady = s.hvReady
  running : t.running = s.running

theorem State.Told.presence (h : s.Told t) (p : Port) : (t.port p).presence = (s.port p).presence := by
  rcases h p with e | ⟨_, _, e⟩ <;> rw [e]
  rfl

theorem State.Steady.of_told (told : s.Told t) (regime : t.regime = { s.regime with dormant := t.regime.dormant })
    (hvReady : t.hvReady = s.hvReady) (setup : t.setup = s.setup) : State.Steady s t :=
  ⟨regime, fun p _ => told.presence p, hvReady, State.running_congr (by rw [setup])⟩

theorem State.Steady.trans {u : State} (h : State.Steady s t) (k : State.Steady t u) : State.Steady s u where
  regime := by rw [k.regime, h.regime]
  presence p voting := (k.presence p voting).trans (h.presence p voting)
  hvReady := k.hvReady.trans h.hvReady
  running := k.running.trans h.running

theorem State.VotesOk.steady (h : s.VotesOk) (k : State.Steady s t) : t.VotesOk := by
  have regime : t.regime.regime = s.regime.regime := by rw [k.regime]
  have voteM : t.regime.voteM = s.regime.voteM := by rw [k.regime]
  have voteB : t.regime.voteB = s.regime.voteB := by rw [k.regime]
  have chargePending : t.regime.chargePending = s.regime.chargePending := by rw [k.regime]
  have chargeVote : t.chargeVote = s.chargeVote := by simp only [State.chargeVote, voteB, k.presence .B rfl]
  have driveVote : t.driveVote = s.driveVote := by simp only [State.driveVote, voteM, k.presence .M rfl]
  have chargeCondition : t.chargeCondition = s.chargeCondition := by simp only [State.chargeCondition, chargeVote, k.hvReady]
  constructor <;> simp only [regime, chargePending, chargeVote, driveVote, chargeCondition, k.running, k.hvReady]
  exacts [h.setupHasNone, h.charging, h.driving, h.pending]

theorem State.TimersOk.congr (h : s.TimersOk) (regime : t.regime = s.regime) (table : t.tableEmpty = s.tableEmpty) :
    t.TimersOk := by
  constructor <;> simp only [regime, table]
  exacts [h.prime, h.dormantTimer, h.dormantEmpty]

/-- What neither the Regime Controller nor the Demand Table's emptiness, nor a port's presence, feels. -/
theorem State.RegimeOk.told (h : s.RegimeOk) (told : s.Told t) (regime : t.regime = s.regime) (hvReady : t.hvReady = s.hvReady)
    (running : t.running = s.running) (table : t.tableEmpty = s.tableEmpty) : t.RegimeOk :=
  .of_halves (h.votes.steady ⟨by rw [regime], fun p _ => told.presence p, hvReady, running⟩) (h.timers.congr regime table)

/-! ## A change of the Demand Table -/

theorem State.dormantUpkeep_regime_but (s : State) :
    s.dormantUpkeep.regime = { s.regime with dormant := s.dormantUpkeep.regime.dormant } := by
  rw [State.dormantUpkeep_regime]

/-- The dormant timer kept to R78. -/
theorem State.TimersOk.dormantUpkeep (prime : s.regime.prime.isSome = true ↔ s.regime.regime = .priming)
    (asleep : s.regime.regime = .dormant → s.tableEmpty = true) : s.dormantUpkeep.TimersOk := by
  have table : s.dormantUpkeep.tableEmpty = s.tableEmpty := State.tableEmpty_congr (by simp)
  constructor
  · rw [State.dormantUpkeep_regime]
    exact prime
  · rw [table, State.dormantUpkeep_regime]
    by_cases idle : s.regime.regime = .park ∧ s.tableEmpty = true
    · rw [if_pos idle]
      refine iff_of_true ?_ idle
      cases s.regime.dormant <;> rfl
    · rw [if_neg idle]
      exact iff_of_false Bool.false_ne_true idle
  · rw [table, State.dormantUpkeep_regime]
    exact asleep

/-- A write to the Demand Table, with the dormant timer after it. -/
theorem State.RegimeOk.dormantUpkeep (h : s.RegimeOk) (regime : t.regime = s.regime) (ports : t.ports = s.ports)
    (hvReady : t.hvReady = s.hvReady) (setup : t.setup = s.setup) (asleep : s.regime.regime = .dormant → t.tableEmpty = true) :
    t.dormantUpkeep.RegimeOk := by
  refine .of_halves (h.votes.steady ⟨?_, ?_, ?_, ?_⟩) (.dormantUpkeep (by rw [regime]; exact h.prime) (by rwa [regime]))
  · rw [State.dormantUpkeep_regime_but, regime]
  · exact fun p _ => congrArg LinkPort.presence (State.port_congr (by simpa using ports) p)
  · simpa using hvReady
  · exact State.running_congr (by simp [setup])

theorem State.RegimeOk.freeSlot (h : s.RegimeOk) (i : Fin 15) : (s.freeSlot i).RegimeOk := by
  refine h.dormantUpkeep (t := { s.setDemand i Demand.freeSlot with age := s.age.erase i }) rfl rfl rfl rfl fun asleep => ?_
  have empty := s.tableEmpty_iff.mp (h.dormantEmpty asleep)
  rw [State.tableEmpty_iff]
  intro j
  change ((s.setDemand i Demand.freeSlot).demand j).stands = false
  rw [State.demand_setDemand]
  split
  · rfl
  · exact empty j

theorem State.RegimeOk.writeDemand (h : s.RegimeOk) (awake : s.regime.regime ≠ .dormant) (i : Fin 15) (d : Demand) (keep : Bool) :
    (s.writeDemand i d keep).RegimeOk := by
  unfold State.writeDemand
  exact h.dormantUpkeep rfl rfl rfl rfl fun asleep => absurd asleep awake

/-! ## A change of regime and a resolution -/

/-- The prime timer runs in PRIMING alone, whatever the change of regime (R75, R76). -/
theorem State.changeRegime_prime (prime : s.regime.prime.isSome = true ↔ s.regime.regime = .priming) (r : Regime) :
    (s.changeRegime r).regime.prime.isSome = true ↔ (s.changeRegime r).regime.regime = .priming := by
  rw [State.changeRegime_regime]
  split
  · exact prime
  · by_cases priming : r = .priming <;> simp [priming]

/-- The timers follow a change of regime (R75 to R79). -/
theorem State.TimersOk.changeRegime (h : s.TimersOk) (r : Regime) (asleep : r = .dormant → s.tableEmpty = true) :
    (s.changeRegime r).TimersOk := by
  have table : (s.changeRegime r).tableEmpty = s.tableEmpty := State.tableEmpty_congr (by simp)
  by_cases same : s.regime.regime = r
  · exact h.congr (by rw [State.changeRegime_regime, if_pos same]) table
  · refine ⟨State.changeRegime_prime h.prime r, ?_, ?_⟩ <;> rw [State.changeRegime_regime, if_neg same, table]
    · by_cases idle : r = .park ∧ s.tableEmpty = true
      · simp [idle]
      · simp only [if_neg idle]
        exact iff_of_false Bool.false_ne_true idle
    · exact asleep

theorem State.TimersOk.resolve (h : s.TimersOk) : s.resolve.TimersOk := by
  have settled : s.settleChargePending.TimersOk := ⟨h.prime, h.dormantTimer, h.dormantEmpty⟩
  refine settled.changeRegime _ fun asleep => h.dormantEmpty ?_
  exact s.resolvedRegime_dormant_iff.mp asleep

theorem State.resolve_chargePending (s : State) : s.resolve.regime.chargePending = (s.chargeVote && !s.hvReady) := by
  rw [State.resolve_regime]
  split <;> rfl

theorem State.resolve_chargeVote (s : State) : s.resolve.chargeVote = s.chargeVote := by
  have vote : s.resolve.regime.voteB = s.regime.voteB := by rw [State.resolve_regime]; split <;> rfl
  simp only [State.chargeVote, vote, s.told_resolve.presence]

theorem State.resolve_driveVote (s : State) : s.resolve.driveVote = s.driveVote := by
  have vote : s.resolve.regime.voteM = s.regime.voteM := by rw [State.resolve_regime]; split <;> rfl
  simp only [State.driveVote, vote, s.told_resolve.presence]

theorem State.resolve_chargeCondition (s : State) : s.resolve.chargeCondition = s.chargeCondition := by
  simp only [State.chargeCondition, State.resolve_chargeVote, State.resolve_frame]

/-- What a resolution gives is what its inputs resolve to; in DORMANT, where no vote asks for another regime (R73, R74, R81). -/
theorem State.VotesOk.resolve (run : s.running = true)
    (asleep : s.regime.regime = .dormant → s.chargeCondition = false ∧ s.driveVote = false) : s.resolve.VotesOk := by
  have on : s.resolve.running = true := (State.running_congr (by simp)).trans run
  have hvReady : s.resolve.hvReady = s.hvReady := by simp
  constructor <;> simp only [State.resolve_to, State.resolve_chargeCondition, State.resolve_driveVote, State.resolve_chargePending,
    State.resolve_chargeVote, hvReady, on, forall_const, Bool.true_and]
  all_goals
    unfold State.resolvedRegime
    by_cases sleeps : s.regime.regime = .dormant
  · simp [sleeps]
  · simp only [sleeps, if_false]
    split_ifs with charging going driving <;> simp
    exact going.elim (fun e => by simp [e]) (fun e => by simp [e])
  · simp [sleeps, asleep sleeps]
  · simp only [sleeps, if_false]
    split_ifs with charging going driving <;> simp_all
  · simp [sleeps, asleep sleeps]
  · simp only [sleeps, if_false]
    split_ifs with charging going driving <;> simp_all
    rcases going with e | e <;> simp [e]

theorem State.RegimeOk.resolve (timers : s.TimersOk) (run : s.running = true)
    (asleep : s.regime.regime = .dormant → s.chargeCondition = false ∧ s.driveVote = false) : s.resolve.RegimeOk :=
  .of_halves (.resolve run asleep) timers.resolve

/-- In DORMANT no vote asks for another regime. -/
theorem State.VotesOk.asleep (h : s.VotesOk) (asleep : s.regime.regime = .dormant) :
    s.chargeCondition = false ∧ s.driveVote = false := by
  have run : s.running = true := by
    by_contra off
    have none := h.setupHasNone.mpr (Bool.eq_false_iff.mpr off)
    rw [asleep] at none
    exact Regime.noConfusion none
  have charging := h.charging run
  have driving := h.driving run
  rw [asleep] at charging driving
  have none : s.chargeCondition = false := by simpa using charging
  exact ⟨none, by simpa [none] using driving⟩

theorem State.VotesOk.running_of_regime (h : s.VotesOk) (some : s.regime.regime ≠ .noRegime) : s.running = true := by
  by_contra off
  exact some (h.setupHasNone.mpr (Bool.eq_false_iff.mpr off))

end

end Sys2Proof.Machine
end

section
/-!
PROOFS. The events that keep the Regime Controller sound: guards, votes, links, HV_READY, its timers and entry to RUN.
-/

namespace Sys2Proof.Machine

section
variable {s t : State}

/-! ## Writes of other blocks -/

theorem State.RegimeOk.setZone (h : s.RegimeOk) (z : Zone) (x : ZoneMonitor) : (s.setZone z x).RegimeOk := h.congr rfl rfl rfl rfl rfl
theorem State.RegimeOk.setTemp (h : s.RegimeOk) (c : TempCh) (x : TempChannel) : (s.setTemp c x).RegimeOk := h.congr rfl rfl rfl rfl rfl
theorem State.RegimeOk.setFlow (h : s.RegimeOk) (l : Loop) (x : FlowChannel) : (s.setFlow l x).RegimeOk := h.congr rfl rfl rfl rfl rfl

/-! ## Guards -/

/-- Blocks that the Regime Controller does not feel, with notices at most. -/
theorem State.RegimeOk.aside (h : s.RegimeOk) (told : s.Told t) (regime : t.regime = s.regime) (hvReady : t.hvReady = s.hvReady)
    (setup : t.setup = s.setup) (demands : t.demands = s.demands) : t.RegimeOk :=
  h.told told regime hvReady (State.running_congr (by rw [setup])) (State.tableEmpty_congr demands)

theorem State.RegimeOk.of_presence (h : s.RegimeOk) (presence : ∀ p, (t.port p).presence = (s.port p).presence)
    (regime : t.regime = s.regime) (hvReady : t.hvReady = s.hvReady) (setup : t.setup = s.setup) (demands : t.demands = s.demands) :
    t.RegimeOk :=
  .of_halves (h.votes.steady ⟨by rw [regime], fun p _ => presence p, hvReady, State.running_congr (by rw [setup])⟩)
    (h.timers.congr regime (State.tableEmpty_congr demands))

theorem State.RegimeOk.endSynth (h : s.RegimeOk) (z : Zone) (old : GuardAction) : (s.endSynth z old).RegimeOk := by
  unfold State.endSynth State.withdrawSynthetic
  split
  · split
    · exact h.freeSlot _
    · exact h
  · exact h
  · exact h

theorem State.RegimeOk.tripAwake (h : s.RegimeOk) (awake : s.regime.regime ≠ .dormant) (z : Zone) : (s.tripAwake z).RegimeOk := by
  have noticed : ((s.setZone z (s.zone z).afterTrip).notify .guard (zonePort z)).RegimeOk :=
    h.aside ((State.told_notify _ (by decide) _).comp (.of_ports rfl)) (by simp) (by simp) (by simp) (by simp)
  have still : ((s.setZone z (s.zone z).afterTrip).notify .guard (zonePort z)).regime.regime ≠ .dormant := by simpa using awake
  have acted : (((s.setZone z (s.zone z).afterTrip).notify .guard (zonePort z)).tripAction z).RegimeOk := by
    unfold State.tripAction
    split
    · exact noticed
    · exact noticed.writeDemand still _ _ _
    · exact noticed.aside (State.told_notifyAll _ (by decide)) (by simp) (by simp) (by simp) (by simp)
  exact acted.congr rfl rfl rfl rfl rfl

/-- The timers through a trip, whatever the votes. -/
theorem State.TimersOk.tripAwake (h : s.TimersOk) (awake : s.regime.regime ≠ .dormant) (z : Zone) : (s.tripAwake z).TimersOk := by
  unfold State.tripAwake State.shedUpkeep State.tripAction
  dsimp only
  split
  · exact h.congr (by simp) (State.tableEmpty_congr (by simp))
  · have upkept : (((s.setZone z (s.zone z).afterTrip).notify .guard (zonePort z)).createSynthetic z).TimersOk :=
      .dormantUpkeep (by simpa using h.prime) fun asleep => absurd (by simpa using asleep) awake
    exact upkept.congr rfl rfl
  · exact h.congr (by simp) (State.tableEmpty_congr (by simp))

theorem State.RegimeOk.trip (h : s.RegimeOk) (z : Zone) : (s.trip z).RegimeOk := by
  unfold State.trip
  split
  next asleep =>
    have park : (s.changeRegime .park).regime.regime = .park := State.changeRegime_to ..
    have awake : (s.changeRegime .park).regime.regime ≠ .dormant := by simp [park]
    have timers : ((s.changeRegime .park).tripAwake z).TimersOk :=
      (h.timers.changeRegime .park fun e => Regime.noConfusion e).tripAwake awake z
    refine .resolve timers ?_ fun sleeps => ?_
    · exact (State.running_congr (by simp)).trans (h.votes.running_of_regime (by simp [asleep]))
    · rw [State.tripAwake_regime_regime] at sleeps
      exact absurd sleeps awake
  next awake => exact h.tripAwake awake z

theorem State.RegimeOk.returnToMatch (h : s.RegimeOk) (z : Zone) (old : GuardAction) : (s.returnToMatch z old).RegimeOk := by
  have armed : (s.setZone z { s.zone z with guard := .armed }).RegimeOk := h.congr rfl rfl rfl rfl rfl
  exact (armed.endSynth z old).congr rfl rfl rfl rfl rfl

theorem State.RegimeOk.evaluate (h : s.RegimeOk) (z : Zone) : (s.evaluate z).RegimeOk := by
  obtain ⟨e, -⟩ | ⟨-, -, e⟩ | ⟨-, -, e⟩ := s.evaluate_cases z <;> rw [e]
  · exact h
  · exact h.trip z
  · exact h.returnToMatch z _

theorem State.RegimeOk.withConditions (h : s.RegimeOk) (z : Zone) (c : Conditions) : (s.withConditions z c).RegimeOk := by
  unfold State.withConditions
  split
  · exact h
  · exact (h.setZone z _).evaluate z

theorem State.RegimeOk.guardWritten (h : s.RegimeOk) (z : Zone) (old : GuardAction) : (s.guardWritten z old).RegimeOk := by
  unfold State.guardWritten
  repeat' split
  · exact h
  · exact h
  · exact h.trip z
  · exact h.returnToMatch z old
  · exact h.trip z
  · exact (h.trip z).endSynth z old

theorem State.RegimeOk.armGuard (h : s.RegimeOk) (z : Zone) : (s.armGuard z).RegimeOk :=
  (h.setZone z _).evaluate z

/-! ## Measurements that reach a guard -/

theorem State.RegimeOk.convertChannel (h : s.RegimeOk) (ch : TempCh) (code : BitVec 12) : (convertChannel s ch code).RegimeOk := by
  unfold Machine.convertChannel State.refreshTemperature
  dsimp only
  split
  · exact (h.setTemp _ _).withConditions _ _
  · exact h.setTemp _ _

theorem State.RegimeOk.expireHold (h : s.RegimeOk) (ch : TempCh) : (expireHold s ch).RegimeOk := by
  unfold Machine.expireHold State.refreshBlind
  dsimp only
  split
  · split
    · exact (h.setTemp _ _).withConditions _ _
    · exact h.setTemp _ _
  · exact h

theorem State.RegimeOk.updateFlow (h : s.RegimeOk) (l : Loop) (c : FlowChannel) : (s.updateFlow l c).RegimeOk := by
  unfold State.updateFlow State.refreshStall
  split
  · exact h.setFlow _ _
  · exact (h.setFlow _ _).withConditions _ _

theorem State.RegimeOk.channelsToInit (h : s.RegimeOk) : s.channelsToInit.RegimeOk := by
  have begun : State.RegimeOk { s with temps := mapTable TempChannel.toInit s.temps } := h.congr rfl rfl rfl rfl rfl
  exact ((begun.withConditions .motor _).withConditions .battery _).withConditions .cabin _

theorem State.RegimeOk.judgeLoop (h : s.RegimeOk) (l : Loop) (settled : Bool) : (s.judgeLoop l settled).RegimeOk := by
  have recorded : (s.setRecord l (s.judged l settled)).RegimeOk := h.congr rfl rfl rfl rfl rfl
  unfold State.judgeLoop
  dsimp only
  split
  · exact (recorded.aside (State.told_notify _ (by decide) _) (by simp) (by simp) (by simp) (by simp)).withConditions _ _
  · exact recorded.withConditions _ _

/-! ## A cycle -/

/-- A record dropped from the ring moves cursors, and no presence (R176). -/
theorem State.appendSnapshot_presence (s : State) (x : Snapshot) (p : Port) :
    ((s.appendSnapshot x).port p).presence = (s.port p).presence := by
  unfold State.appendSnapshot
  split
  · rfl
  · change ((mapTable _ s.ports).get (portIx p)).presence = _
    rw [get_mapTable]
    unfold LinkPort.dropRecord
    split <;> rfl

theorem Demand.writeBack_stands (d : Demand) (e : GrantEntry) (limit : Nat) : (d.writeBack e limit).stands = true := by
  unfold Demand.writeBack
  repeat' split
  all_goals rfl

/-- What an entry's write-back leaves in the Demand Table (R16). -/
theorem State.writeBackEntry_demand (s : State) (e : GrantEntry) (i : Fin 15) :
    (s.writeBackEntry e).demand i = if i = e.ix then (s.demand e.ix).writeBack e (s.num .starveLimit) else s.demand i := by
  have demands : (s.writeBackEntry e).demands = (s.setDemand e.ix ((s.demand e.ix).writeBack e (s.num .starveLimit))).demands := by
    unfold State.writeBackEntry
    dsimp only
    split <;> simp
  rw [State.demand_congr demands, State.demand_setDemand]

/-- Entries of standing demands leave every demand standing that stood, and no other (R16). -/
theorem foldl_writeBackEntry_stands {es : List GrantEntry} : ∀ {s : State}, (∀ e ∈ es, (s.demand e.ix).stands = true) → ∀ i,
    ((es.foldl State.writeBackEntry s).demand i).stands = (s.demand i).stands := by
  induction es with
  | nil => exact fun _ _ => rfl
  | cons e es ih =>
    intro s stands i
    have step (j : Fin 15) : ((s.writeBackEntry e).demand j).stands = (s.demand j).stands := by
      rw [State.writeBackEntry_demand]
      split
      next own => rw [Demand.writeBack_stands, own, stands e List.mem_cons_self]
      next => rfl
    rw [List.foldl_cons, ih (fun f mem => (step f.ix).trans (stands f (List.mem_cons_of_mem e mem))), step]

theorem State.atPublication_stands (s : State) (i : Fin 15) : (s.atPublication.demand i).stands = (s.demand i).stands := by
  have begun (i : Fin 15) : s.cycleBegun.demand i = s.demand i := State.demand_congr (by simp) i
  have written : ((s.cycleBegun.writeBackAll s.cycleBegun.grantSet).demand i).stands = (s.cycleBegun.demand i).stands :=
    foldl_writeBackEntry_stands (fun e mem => State.grantSet_stands mem) i
  rw [begun] at written
  rwa [State.demand_congr (s := s.cycleBegun.writeBackAll s.cycleBegun.grantSet) (by simp [State.atPublication])]

theorem State.tableEmpty_of_stands (h : ∀ i, (t.demand i).stands = (s.demand i).stands) : t.tableEmpty = s.tableEmpty := by
  simp only [State.tableEmpty, h]

theorem State.RegimeOk.runCycle (h : s.RegimeOk) : s.runCycle.RegimeOk := by
  have published : s.atPublication.RegimeOk :=
    h.told s.told_atPublication (by simp) (by simp) (State.running_congr (by simp)) (State.tableEmpty_of_stands s.atPublication_stands)
  have appended : (s.atPublication.appendSnapshot (s.atPublication.snapshotOf s.cycleBegun.grantSet)).RegimeOk :=
    published.of_presence (State.appendSnapshot_presence _ _) (by simp) (by simp) (by simp) (by simp)
  have judged : s.atJudgement.RegimeOk := by
    rw [State.atJudgement_eq]
    exact appended.aside ((State.told_selectMode _).comp (.of_ports (by simp))) (by simp) (by simp) (by simp) (by simp)
  rw [State.runCycle_eq_judgeLoops]
  exact (judged.judgeLoop .motor _).judgeLoop .battery _

end

end Sys2Proof.Machine
end

section
/-!
PROOFS. The regime after every step: votes, links, HV_READY, the regime's own timers and entry to RUN.
-/

namespace Sys2Proof.Machine

section
variable {s t : State}

/-! ## Resolutions in RUN -/

/-- In SETUP there is no regime, and nothing is pending. -/
def State.Unresolved (s : State) : Prop := s.regime.regime = .noRegime ∧ s.regime.chargePending = false

theorem State.VotesOk.of_setup (off : s.running = false) (none : s.Unresolved) : s.VotesOk := by
  constructor <;> simp [off, none.1, none.2]

theorem State.VotesOk.unresolved (h : s.VotesOk) (off : s.running = false) : s.Unresolved :=
  ⟨h.setupHasNone.mpr off, by rw [h.pending, off]; rfl⟩

theorem State.RegimeOk.resolveInRun (timers : s.TimersOk) (setup : s.running = false → s.Unresolved)
    (asleep : s.regime.regime = .dormant → s.chargeCondition = false ∧ s.driveVote = false) : s.resolveInRun.RegimeOk := by
  unfold State.resolveInRun
  split
  next run => exact .resolve timers run asleep
  next off => exact .of_halves (.of_setup (Bool.eq_false_iff.mpr off) (setup (Bool.eq_false_iff.mpr off))) timers

theorem State.TimersOk.wake (h : s.TimersOk) : s.wake.TimersOk := by
  unfold State.wake
  split
  · exact (h.changeRegime .park fun e => Regime.noConfusion e).resolve
  · exact h

theorem State.RegimeOk.wake (h : s.RegimeOk) : s.wake.RegimeOk := by
  unfold State.wake
  split
  next asleep =>
    refine .resolve (h.timers.changeRegime .park fun e => Regime.noConfusion e) ?_ fun sleeps => ?_
    · exact (State.running_congr (by simp)).trans (h.votes.running_of_regime (by simp [asleep]))
    · rw [State.changeRegime_to] at sleeps
      exact Regime.noConfusion sleeps
  next => exact h

/-! ## Votes -/

theorem State.RegimeOk.takeVoteM (h : s.RegimeOk) (awake : s.regime.regime ≠ .dormant) (v : VoteM) : (s.takeVoteM v).RegimeOk := by
  unfold State.takeVoteM
  dsimp only
  split
  next same =>
    subst same
    exact h.congr rfl rfl rfl rfl rfl
  next =>
    exact .resolveInRun ⟨h.prime, h.dormantTimer, h.dormantEmpty⟩ (fun off => h.votes.unresolved off) fun asleep => absurd asleep awake

theorem State.RegimeOk.takeVoteB (h : s.RegimeOk) (awake : s.regime.regime ≠ .dormant) (v : VoteB) : (s.takeVoteB v).RegimeOk := by
  unfold State.takeVoteB
  dsimp only
  split
  next same =>
    subst same
    exact h.congr rfl rfl rfl rfl rfl
  next =>
    exact .resolveInRun ⟨h.prime, h.dormantTimer, h.dormantEmpty⟩ (fun off => h.votes.unresolved off) fun asleep => absurd asleep awake

theorem State.RegimeOk.voteCommand (h : s.RegimeOk) (awake : s.regime.regime ≠ .dormant) (p : Port) (v : Byte) :
    (voteCommand p v s).state.RegimeOk := by
  rcases voteCommand_state p v s with e | ⟨w, e⟩ | ⟨w, e⟩ <;> rw [e]
  · exact h
  · exact h.takeVoteM awake w
  · exact h.takeVoteB awake w

/-! ## HV_READY -/

theorem State.RegimeOk.riseHvReady (h : s.RegimeOk) : (riseHvReady s).RegimeOk := by
  have timers : State.TimersOk { s with hvReady := true } := h.timers.congr rfl rfl
  refine .resolveInRun timers.wake (fun off => ?_) fun asleep => absurd asleep (State.wake_awake _)
  have setup : s.running = false := (State.running_congr (by simp)).symm.trans off
  have none := h.votes.unresolved setup
  have awake : State.wake { s with hvReady := true } = { s with hvReady := true } := State.wake_of_awake (by simp [none.1])
  rw [awake]
  exact none

theorem State.RegimeOk.fallHvReady (h : s.RegimeOk) : (fallHvReady s).RegimeOk := by
  refine .resolveInRun (h.timers.congr rfl rfl) h.votes.unresolved fun asleep => ⟨?_, (h.votes.asleep asleep).2⟩
  exact Bool.and_false _

/-! ## Links -/

/-- A port's link timer and presence, where both belong to a port without a vote, or to one whose presence stays. -/
theorem State.RegimeOk.linked (h : s.RegimeOk) (presence : ∀ p, hasVote p = true → (t.port p).presence = (s.port p).presence)
    (regime : t.regime = s.regime) (hvReady : t.hvReady = s.hvReady) (setup : t.setup = s.setup) (demands : t.demands = s.demands) :
    t.RegimeOk :=
  .of_halves (h.votes.steady ⟨by rw [regime], presence, hvReady, State.running_congr (by rw [setup])⟩)
    (h.timers.congr regime (State.tableEmpty_congr demands))

/-- A change of a port's presence: a resolution where it has a vote (R72). -/
theorem State.RegimeOk.presenceChanged (h : s.RegimeOk) {p : Port} (others : ∀ q, q ≠ p → (t.port q).presence = (s.port q).presence)
    (regime : t.regime = s.regime) (hvReady : t.hvReady = s.hvReady) (setup : t.setup = s.setup) (demands : t.demands = s.demands)
    (asleep : s.regime.regime = .dormant → (t.port p).presence = .absent) : (t.presenceChanged p).RegimeOk := by
  have running : t.running = s.running := State.running_congr (by rw [setup])
  unfold State.presenceChanged
  split
  · refine .resolveInRun (h.timers.congr regime (State.tableEmpty_congr demands)) (fun off => ?_) fun sleeps => ?_
    · rw [State.Unresolved, regime]
      exact h.votes.unresolved (running ▸ off)
    · rw [regime] at sleeps
      obtain ⟨charge, drive⟩ := h.votes.asleep sleeps
      have gone := asleep sleeps
      unfold State.chargeCondition State.chargeVote State.driveVote at *
      rw [regime, hvReady]
      cases p
      · rw [gone, others .B (by decide)]
        exact ⟨charge, Bool.and_false _⟩
      · rw [gone, others .M (by decide)]
        exact ⟨by simp, drive⟩
      · rw [others .M (by decide), others .B (by decide)]
        exact ⟨charge, drive⟩
  next voteless =>
    exact h.linked (fun q voting => others q fun e => voteless (e ▸ voting)) regime hvReady setup demands

theorem State.RegimeOk.expireLink (h : s.RegimeOk) (p : Port) : (expireLink s p).RegimeOk := by
  unfold Machine.expireLink
  split
  · refine h.presenceChanged (fun q other => ?_) (by simp) (by simp) (by simp) (by simp) fun _ => ?_
    · rw [State.notify_port, if_neg other, State.port_setPort, if_neg other]
    · rw [State.notify_port, if_pos rfl, State.port_setPort, if_pos rfl]
      rfl
  · exact h

theorem State.RegimeOk.restartLink (h : s.RegimeOk) (awake : s.regime.regime ≠ .dormant) (p : Port) : (s.restartLink p).RegimeOk := by
  unfold State.restartLink
  dsimp only
  split
  · refine h.presenceChanged (fun q other => ?_) rfl rfl rfl rfl fun asleep => absurd asleep awake
    rw [State.port_setPort, if_neg other]
  next there =>
    refine h.linked (fun q _ => ?_) rfl rfl rfl rfl
    rw [State.port_setPort]
    split
    next own =>
      subst own
      cases present : (s.port q).presence with
      | present => rfl
      | absent => exact absurd present there
    next => rfl

theorem State.RegimeOk.frameArrives (h : s.RegimeOk) (p : Port) (n : Nat) : (s.frameArrives p n).RegimeOk := by
  have shifted : (s.shiftOut p (96 + n)).RegimeOk := h.linked (fun q _ => ?_) (by simp) (by simp) (by simp) (by simp)
  · exact shifted.wake.restartLink (State.wake_awake _) p
  · rw [State.shiftOut, State.port_setPort]
    split
    next own => rw [own]
    next => rfl

/-! ## The regime's timers -/

/-- A change to a regime that the inputs ask for (R73, R74). -/
theorem State.VotesOk.changeRegime (run : s.running = true) {r : Regime} (some : r ≠ .noRegime)
    (charging : s.chargeCondition = true ↔ r = .priming ∨ r = .charge)
    (driving : r = .drive ↔ s.chargeCondition = false ∧ s.driveVote = true)
    (pending : s.regime.chargePending = (s.chargeVote && !s.hvReady)) : (s.changeRegime r).VotesOk := by
  have on : (s.changeRegime r).running = true := (State.running_congr (by simp)).trans run
  have same : (s.changeRegime r).regime.voteM = s.regime.voteM ∧ (s.changeRegime r).regime.voteB = s.regime.voteB ∧
      (s.changeRegime r).regime.chargePending = s.regime.chargePending := by
    rw [State.changeRegime_regime]
    split <;> exact ⟨rfl, rfl, rfl⟩
  obtain ⟨voteM, voteB, chargePending⟩ := same
  have hvReady : (s.changeRegime r).hvReady = s.hvReady := by simp
  have chargeVote : (s.changeRegime r).chargeVote = s.chargeVote := by
    simp only [State.chargeVote, voteB, (s.told_changeRegime r).presence]
  have driveVote : (s.changeRegime r).driveVote = s.driveVote := by
    simp only [State.driveVote, voteM, (s.told_changeRegime r).presence]
  have chargeCondition : (s.changeRegime r).chargeCondition = s.chargeCondition := by
    simp only [State.chargeCondition, chargeVote, hvReady]
  constructor <;> simp only [State.changeRegime_to, chargeCondition, driveVote, chargeVote, chargePending, hvReady, on, forall_const,
    Bool.true_and]
  · exact iff_of_false some fun e => Bool.false_ne_true e.symm
  · exact charging
  · exact driving
  · exact pending

theorem State.RegimeOk.expirePrime (h : s.RegimeOk) : (expirePrime s).RegimeOk := by
  unfold Machine.expirePrime
  split
  next due =>
    have run : s.running = true := h.votes.running_of_regime (by simp [due.1])
    split
    next charging =>
      have settled : s.settleChargePending.TimersOk := ⟨h.prime, h.dormantTimer, h.dormantEmpty⟩
      have condition : s.settleChargePending.chargeCondition = true := charging
      refine .of_halves (.changeRegime (s := s.settleChargePending) run (r := .charge) (by decide) ?_ ?_ rfl) (settled.changeRegime .charge fun e => Regime.noConfusion e)
      · exact iff_of_true condition (.inr rfl)
      · exact iff_of_false (by decide) fun none => Bool.false_ne_true (none.1.symm.trans condition)
    next => exact .resolve h.timers run fun asleep => Regime.noConfusion (due.1.symm.trans asleep)
  next => exact h

theorem State.RegimeOk.expireDormant (h : s.RegimeOk) : (expireDormant s).RegimeOk := by
  unfold Machine.expireDormant
  split
  next due =>
    have timed : s.regime.dormant.isSome = true := by
      cases left : s.regime.dormant with
      | none => simp [left, ranOut] at due
      | some n => rfl
    obtain ⟨park, empty⟩ := h.dormantTimer.mp timed
    have run : s.running = true := h.votes.running_of_regime (by simp [park])
    have charging := h.charging run
    have driving := h.driving run
    rw [park] at charging driving
    have asleep : (s.changeRegime .dormant).RegimeOk := by
      refine .of_halves (.changeRegime run (by decide) (charging.trans ?_) ((iff_of_false (by decide) (by decide)).trans driving) ?_)
        (h.timers.changeRegime .dormant fun _ => empty)
      · exact iff_of_false (by decide) (by decide)
      · rw [h.pending, run, Bool.true_and]
    exact asleep.congr rfl rfl rfl rfl rfl
  next => exact h

/-! ## Commands that reach a guard, and entry to RUN -/

theorem State.RegimeOk.takeWrite (h : s.RegimeOk) (p : Port) (q : Param) (j : Judged) : (s.takeWrite p q j).RegimeOk := by
  have stored : ((s.storeParam p q j.value j.second).lowerCompMin p q).RegimeOk :=
    h.congr (by simp) (by simp) (by simp) (by simp) (by simp)
  unfold State.takeWrite State.writeInRun State.writeInSetup
  dsimp only
  split
  · split
    · exact stored.guardWritten _ _
    · exact stored
  · have reached : (if q.isConvPt then ((s.storeParam p q j.value j.second).lowerCompMin p q).channelsToInit
        else (s.storeParam p q j.value j.second).lowerCompMin p q).RegimeOk := by
      split
      · exact stored.channelsToInit
      · exact stored
    have cleared {t : State} (ok : t.RegimeOk) : t.clearVotes.RegimeOk :=
      ok.told t.told_clearVotes (by simp) (by simp) (State.running_congr t.clearVotes_state) (State.tableEmpty_congr (by simp))
    split
    · exact cleared (reached.congr (by simp) (by simp) (by simp) (by simp) (by simp))
    · exact cleared reached

theorem State.RegimeOk.setpCommand (h : s.RegimeOk) (p : Port) (id : Byte) (first second : Word) :
    (setpCommand p id first second s).state.RegimeOk := by
  rcases setpCommand_state p id first second s with e | ⟨q, j, -, -, -, e⟩ <;> rw [e]
  · exact h
  · exact h.takeWrite p q j

theorem State.RegimeOk.notifyAll (h : s.RegimeOk) {n : Notice} (other : n ≠ .allowance) : (s.notifyAll n).RegimeOk :=
  h.aside (s.told_notifyAll other) (by simp) (by simp) (by simp) (by simp)

theorem State.RegimeOk.clearForces (h : s.RegimeOk) : s.clearForces.RegimeOk := h.congr rfl rfl rfl rfl rfl

/-- Entry to RUN: the regime is resolved as from PARK (R85). -/
theorem State.RegimeOk.regimeRunEntry (run : s.running = true) (prime : s.regime.prime = none) : s.regimeRunEntry.RegimeOk := by
  have parked : (State.resolve { s with regime := { s.regime with regime := .park, voteM := .park } }).VotesOk :=
    .resolve run fun asleep => Regime.noConfusion asleep
  have noticed := parked.steady (t := State.notifyAll _ .regime)
    (.of_told (State.told_notifyAll _ (by decide)) (by simp) (by simp) (by simp))
  have upkept := noticed.steady (t := State.dormantUpkeep _)
    (.of_told (State.told_dormantUpkeep _) (State.dormantUpkeep_regime_but _) (by simp) (by simp))
  refine .of_halves upkept (.dormantUpkeep ?_ fun asleep => ?_)
  · simp only [State.notifyAll_frame]
    refine State.changeRegime_prime ?_ _
    simp [prime]
  · simp [State.resolve_dormant_iff] at asleep

theorem State.RegimeOk.enterRun (h : s.RegimeOk) (off : s.running = false) : s.enterRun.RegimeOk := by
  have none : s.regime.prime = none := by
    have stopped : ¬ s.regime.prime.isSome = true := fun some => by
      have priming := h.prime.mp some
      rw [h.setupHasNone.mpr off] at priming
      exact Regime.noConfusion priming
    simpa using stopped
  have entering : s.enteringRun.RegimeOk := .regimeRunEntry rfl none
  have allocated : s.enteringRun.allocatorRunEntry.RegimeOk := entering.congr rfl rfl rfl rfl rfl
  have armed : s.guardsArmed.RegimeOk := ((allocated.armGuard .motor).armGuard .battery).armGuard .cabin
  have cleared : s.guardsArmed.clearForces.RegimeOk := armed.clearForces
  exact cleared.notifyAll (n := .setup) (by decide)

theorem State.RegimeOk.setVote (h : s.RegimeOk) (p : Port) (v : Bool) : (s.setVote p v).RegimeOk :=
  h.told (.of_ports rfl) rfl rfl (State.running_congr rfl) (State.tableEmpty_congr rfl)

theorem State.RegimeOk.failValidation (h : s.RegimeOk) (id : Nat) (r : FaultReason) : (s.failValidation id r).RegimeOk := by
  have told : s.Told (s.failValidation id r) := State.told_notifyAll_of_ports (by decide) rfl
  exact h.told told (by simp) (by simp) (State.running_congr (by simp [State.failValidation])) (State.tableEmpty_congr (by simp))

theorem State.RegimeOk.startCommand (h : s.RegimeOk) (p : Port) : (startCommand p s).state.RegimeOk := by
  rcases startCommand_state p s with e | ⟨setup, -, e⟩ <;> rw [e]
  · exact h
  unfold State.addVote State.validate
  dsimp only
  split
  · split
    · exact (h.setVote p true).enterRun setup
    · exact (h.setVote p true).failValidation _ _
  · exact h.setVote p true

theorem State.RegimeOk.unstartCommand (h : s.RegimeOk) (p : Port) : (unstartCommand p s).state.RegimeOk := by
  unfold Machine.unstartCommand
  dsimp only
  split
  · exact h
  · exact h.setVote p false

/-! ## Demands, resets and time -/

theorem State.renewSlot_stands (s : State) (i j : Fin 15) : ((s.renewSlot i).demand j).stands = (s.demand j).stands := by
  unfold State.renewSlot
  rw [State.demand_setDemand]
  split
  next own => rw [own]; rfl
  next => rfl

theorem State.RegimeOk.renewCommand (h : s.RegimeOk) (p : Port) (slots : Byte) : (renewCommand p slots s).state.RegimeOk := by
  unfold Machine.renewCommand slotAnswer
  split
  · exact h
  split
  · exact h
  · refine h.told (.of_ports (by simp)) (by simp) (by simp) (State.running_congr (by simp)) (State.tableEmpty_of_stands fun i => ?_)
    exact foldl_keeps (fun t : State => (t.demand i).stands) _ (fun t k => t.renewSlot_stands _ i) _ s

theorem State.RegimeOk.foldl_freeSlot (z : Zone) (ks : List (Fin 4)) : ∀ {s : State}, s.RegimeOk →
    (ks.foldl (fun t k => t.freeSlot (postedIx z k)) s).RegimeOk := by
  induction ks with
  | nil => exact id
  | cons k ks ih => exact fun h => ih (h.freeSlot _)

theorem State.RegimeOk.dropCommand (h : s.RegimeOk) (p : Port) (slots : Byte) : (dropCommand p slots s).state.RegimeOk := by
  unfold Machine.dropCommand slotAnswer
  split
  · exact h
  split
  · exact h
  · exact .foldl_freeSlot _ _ h

/-- A POST is refused, or writes a demand that every check lets pass (R5). -/
theorem postCommand_state (p : Port) (slot sense tier weight : Byte) (asked : Word) (lease : Byte) (s : State) :
    (postCommand p slot sense tier weight asked lease s).state = s ∨
      ∃ k x t keep, s.running = true ∧ (p = .M → x = .cool) ∧ (t = .charge → p = .B) ∧ asked ≠ 0#16 ∧
        s.senseRule (portZone p) k x = true ∧
        (postCommand p slot sense tier weight asked lease s).state =
          s.writeDemand (postedIx (portZone p) k) (postedDemand x t weight asked lease) keep := by
  unfold postCommand
  split
  · exact .inl rfl
  next run =>
  split
  · exact .inl rfl
  split
  next k x t _ _ _ =>
    split
    · exact .inl rfl
    next motor =>
    split
    · exact .inl rfl
    next charge =>
    split
    · exact .inl rfl
    next some =>
    unfold State.takePost
    dsimp only
    split
    next rule =>
      refine .inr ⟨k, x, t, _, by simpa using run, fun e => ?_, fun e => ?_, some, rule, rfl⟩
      · by_contra other
        exact motor ⟨e, other⟩
      · by_contra other
        exact charge ⟨other, e⟩
    next => exact .inl rfl
  · exact .inl rfl

theorem State.RegimeOk.postCommand (h : s.RegimeOk) (awake : s.regime.regime ≠ .dormant) (p : Port) (slot sense tier weight : Byte)
    (asked : Word) (lease : Byte) : (postCommand p slot sense tier weight asked lease s).state.RegimeOk := by
  rcases postCommand_state p slot sense tier weight asked lease s with e | ⟨k, x, t, keep, -, -, -, -, -, e⟩ <;> rw [e]
  · exact h
  · exact h.writeDemand awake _ _ _

theorem State.RegimeOk.expireLease (h : s.RegimeOk) (z : Zone) (k : Fin 4) : (expireLease s z k).RegimeOk := by
  unfold Machine.expireLease
  split
  · exact (h.freeSlot _).aside (State.told_notify _ (by decide) _) (by simp) (by simp) (by simp) (by simp)
  · exact h

theorem State.RegimeOk.tick (h : s.RegimeOk) : s.tick.RegimeOk := by
  have table : s.tick.tableEmpty = s.tableEmpty := State.tableEmpty_of_stands fun i => by
    change ((mapTable Demand.tick s.demands).get i).stands = _
    rw [get_mapTable]
    rfl
  have presence (p : Port) : (s.tick.port p).presence = (s.port p).presence := by
    change ((mapTable LinkPort.tick s.ports).get (portIx p)).presence = _
    rw [get_mapTable]
    rfl
  have prime : s.tick.regime.prime.isSome = s.regime.prime.isSome := tickTimer_isSome _
  have dormant : s.tick.regime.dormant.isSome = s.regime.dormant.isSome := tickTimer_isSome _
  have charge : s.tick.chargeVote = s.chargeVote := by
    change (s.regime.voteB == .charge && (s.tick.port .B).presence == .present) = _
    rw [presence]
    rfl
  have drive : s.tick.driveVote = s.driveVote := by
    change (s.regime.voteM == .drive && (s.tick.port .M).presence == .present) = _
    rw [presence]
    rfl
  have condition : s.tick.chargeCondition = s.chargeCondition := by
    change (s.tick.chargeVote && s.hvReady) = _
    rw [charge]
    rfl
  constructor
  · exact h.setupHasNone
  · rw [condition]
    exact h.charging
  · rw [condition, drive]
    exact h.driving
  · rw [charge]
    exact h.pending
  · rw [prime]
    exact h.prime
  · rw [dormant, table]
    exact h.dormantTimer
  · rw [table]
    exact h.dormantEmpty

theorem State.RegimeOk.resetWith (s : State) (r : ResetRecord) : (s.resetWith r).RegimeOk := by
  have fresh : (State.afterReset r s.hvReady s.valveAt #v[(s.port .M).selected, (s.port .B).selected, (s.port .C).selected]
      s.pending s.timeBase).RegimeOk := by
    constructor <;> simp [State.afterReset, State.running]
  exact fresh.aside (State.told_arriveAtEntry _) (by simp [State.resetWith]) (by simp [State.resetWith]) (by simp [State.resetWith])
    (by simp [State.resetWith])

end

theorem regimeOk_kept : Kept State.RegimeOk where
  pending _ h := h.congr rfl rfl rfl rfl rfl
  tick h := h.tick
  reset r _ := .resetWith _ r
  shiftOut p n h := by
    refine h.linked (fun q _ => ?_) (by simp) (by simp) (by simp) (by simp)
    rw [State.shiftOut, State.port_setPort]
    split
    next own => rw [own]
    next => rfl
  stage p r h := by
    refine h.linked (fun q _ => ?_) (by simp) (by simp) (by simp) (by simp)
    rw [State.stage, State.port_setPort]
    split
    next own => rw [own]
    next => rfl
  arrives p n h := h.frameArrives p n
  post p slot sense tier weight asked lease awake h := h.postCommand awake p slot sense tier weight asked lease
  renew p slots h := h.renewCommand p slots
  drop p slots h := h.dropCommand p slots
  allow _ _ _ h := h.congr (by simp) (by simp) (by simp) (by simp) (by simp)
  vote p v awake h := h.voteCommand awake p v
  setp p id first second h := h.setpCommand p id first second
  start p h := h.startCommand p
  unstart p h := h.unstartCommand p
  force _ _ h := h.congr (by simp [forceCommand]) (by simp [forceCommand]) (by simp [forceCommand]) (by simp [forceCommand])
    (by simp [forceCommand])
  forceRelease _ h := h.congr (by simp [forceReleaseCommand]) (by simp [forceReleaseCommand]) (by simp [forceReleaseCommand])
    (by simp [forceReleaseCommand]) (by simp [forceReleaseCommand])
  clearvalve h := h.aside (State.told_clearvalveCommand _) (by simp) (by simp) (by simp) (by simp)
  next p h := by
    refine h.linked (fun q _ => ?_) (by simp) (by simp) (by simp) (by simp)
    unfold nextCommand
    split
    · rfl
    · rw [State.port_setPort]
      split
      next own => rw [own]
      next => rfl
  ack p set h := by
    refine h.linked (fun q _ => ?_) (by simp) (by simp) (by simp) (by simp)
    unfold ackCommand
    rw [State.port_setPort]
    split
    next own => rw [own]; rfl
    next => rfl
  enable p set h := by
    refine h.linked (fun q _ => ?_) (by simp) (by simp) (by simp) (by simp)
    unfold enableCommand
    rw [State.port_setPort]
    split
    next own => rw [own]; rfl
    next => rfl
  leaseExpiry z k h := h.expireLease z k
  cycleExpiry h := by
    unfold expireCycle
    split
    · exact h.runCycle
    · exact h
  allowanceLeaseExpiry {s} h := by
    unfold expireAllowance
    split
    · refine h.linked (fun q _ => ?_) (by simp) (by simp) (by simp) (by simp)
      rw [State.notify_port]
      split <;> rfl
    · exact h
  dwellExpiry h := h.congr (by simp) (by simp) (by simp) (by simp) (by simp)
  travelTimeout h := h.aside (State.told_timeoutTravel _) (by simp) (by simp) (by simp) (by simp)
  retryAttempt h := h.aside (State.told_retryTravel _) (by simp) (by simp) (by simp) (by simp)
  valveAtAsserted h := h.aside (State.told_assertValveAt _) (by simp) (by simp) (by simp) (by simp)
  valveAtDeasserted h := h.aside (State.told_deassertValveAt _) (by simp) (by simp) (by simp) (by simp)
  hvReadyRise h := h.riseHvReady
  hvReadyFall h := h.fallHvReady
  primeTimerExpiry h := h.expirePrime
  dormantTimerExpiry h := h.expireDormant
  linkTimerExpiry p h := h.expireLink p
  conversion ch code h := h.convertChannel ch code
  holdExpiry ch h := h.expireHold ch
  flowEdge l h := h.updateFlow l _
  stallExpiry l h := by
    unfold expireStall
    split
    · exact h.updateFlow l _
    · exact h
  periodBoundary _ h := h.congr (by simp) (by simp) (by simp) (by simp) (by simp)

/-- Settles O56. -/
theorem stepsKeepTheRegimeResolved : Obligations.StepsKeepTheRegimeResolved := fun _ _ run h => regimeOk_kept.step run h

end Sys2Proof.Machine
end

section
/-!
PROOFS. What every step keeps of the Demand Table and the age list (R2 to R20): slot by slot.
-/

namespace Sys2Proof.Machine

/-! ## A sound slot -/

/-- What R3 to R6 and R13 to R18 say of one slot. -/
structure Demand.Ok (i : Fin 15) (d : Demand) : Prop where
  freeClear : d.stands = false → d = Demand.freeSlot
  ranges : d.stands = true →
    1 ≤ d.weight ∧ d.weight ≤ 15 ∧ 1 ≤ d.asked ∧ d.asked ≤ 480 ∧ d.starveCount ≤ 255
  granted : d.GrantedOk
  episode : d.starveCount = 0 → d.starveMark = false
  leased : i ≠ gIx (zoneOfIx i) → d.stands = true →
    1 ≤ d.leaseLength ∧ d.leaseLength ≤ 60 ∧ ∃ us, d.lease = some us ∧ us ≤ seconds d.leaseLength
  synthetic : i = gIx (zoneOfIx i) → d.stands = true → d.tier = .protect ∧ d.weight = 15 ∧ d.lease = none
  motorCools : d.stands = true → zoneOfIx i = .motor → d.sense = .cool
  chargeOnBattery : d.stands = true → d.tier = .charge → zoneOfIx i = .battery

/-- Two standing posted demands of a zone share one sense (R6). -/
def State.OneSense (s : State) : Prop :=
  ∀ z j k, (s.demand (postedIx z j)).stands = true → (s.demand (postedIx z k)).stands = true →
    (s.demand (postedIx z j)).sense = (s.demand (postedIx z k)).sense

theorem postedIx_not_g (z : Zone) (k : Fin 4) : postedIx z k ≠ gIx (zoneOfIx (postedIx z k)) := postedIx_ne_gIx z _ k

theorem State.demandsOk_iff {s : State} :
    s.DemandsOk ↔ s.age.Nodup ∧ (∀ i, i ∈ s.age ↔ (s.demand i).stands = true) ∧ (∀ i, (s.demand i).Ok i) ∧ s.OneSense := by
  constructor
  · intro h
    refine ⟨h.ageNodup, h.ageExact, fun i => ⟨h.freeClear i, h.ranges i, h.granted i, h.episode i, fun posted => ?_, fun own => ?_,
      h.motorCools i, h.chargeOnBattery i⟩, h.oneSense⟩
    · obtain ⟨z, k, rfl⟩ | ⟨z, rfl⟩ := slot_cases i
      · exact h.leased z k
      · exact absurd (by rw [zoneOfIx_gIx]) posted
    · rw [own]
      exact h.synthetic _
  · rintro ⟨nodup, exact_, slots, oneSense⟩
    exact
      { ageNodup := nodup, ageExact := exact_, freeClear := fun i => (slots i).freeClear, ranges := fun i => (slots i).ranges
        granted := fun i => (slots i).granted, episode := fun i => (slots i).episode
        leased := fun z k => (slots _).leased (postedIx_not_g z k)
        synthetic := fun z => (slots _).synthetic (by rw [zoneOfIx_gIx])
        motorCools := fun i => (slots i).motorCools, chargeOnBattery := fun i => (slots i).chargeOnBattery, oneSense := oneSense }

theorem Demand.freeSlot_ok (i : Fin 15) : Demand.freeSlot.Ok i := by
  constructor <;> simp [Demand.freeSlot, Demand.stands, Demand.GrantedOk]

/-- A demand just written waits, with nothing granted and no starve episode (R8, R18). -/
theorem Demand.Ok.of_waiting {i : Fin 15} {d : Demand} (waiting : d.state = .waiting) (none : d.granted = 0) (fresh : d.starveCount = 0)
    (mark : d.starveMark = false) (weight : 1 ≤ d.weight ∧ d.weight ≤ 15) (asked : 1 ≤ d.asked ∧ d.asked ≤ 480)
    (leased : i ≠ gIx (zoneOfIx i) → 1 ≤ d.leaseLength ∧ d.leaseLength ≤ 60 ∧ d.lease = some (seconds d.leaseLength))
    (synthetic : i = gIx (zoneOfIx i) → d.tier = .protect ∧ d.weight = 15 ∧ d.lease = Option.none)
    (motor : zoneOfIx i = .motor → d.sense = .cool) (charge : d.tier = .charge → zoneOfIx i = .battery) : d.Ok i where
  freeClear free := by simp [Demand.stands, waiting] at free
  ranges _ := ⟨weight.1, weight.2, asked.1, asked.2, by omega⟩
  granted := by rw [Demand.GrantedOk, waiting]; exact none
  episode _ := mark
  leased posted _ := ⟨(leased posted).1, (leased posted).2.1, _, (leased posted).2.2, Nat.le_refl _⟩
  synthetic own _ := synthetic own
  motorCools _ := motor
  chargeOnBattery _ := charge

/-- What a taken POST writes (R5, R7, R8). -/
theorem postedDemand_ok {p : Port} {x : Sense} {t : Tier} {asked : Word} (k : Fin 4) (weight lease : Byte) (motor : p = .M → x = .cool)
    (charge : t = .charge → p = .B) (some : asked ≠ 0#16) :
    (postedDemand x t weight asked lease).Ok (postedIx (portZone p) k) := by
  have asked_pos : 1 ≤ asked.toNat := Nat.one_le_iff_ne_zero.mpr fun e => some (BitVec.eq_of_toNat_eq e)
  refine .of_waiting rfl rfl rfl rfl (clampNat_bounds (by decide) _) ⟨?_, (clampNat_bounds (by decide) _).2⟩ (fun _ => ?_)
    (fun own => absurd own (postedIx_not_g _ k)) (fun zone => ?_) fun tier => ?_
  · simp only [postedDemand, clampNat]
    omega
  · exact ⟨(clampNat_bounds (by decide) _).1, (clampNat_bounds (by decide) _).2, rfl⟩
  · rw [zoneOfIx_postedIx] at zone
    exact motor (portZone_inj.mp (zone.trans (by rfl : Zone.motor = portZone .M)))
  · rw [zoneOfIx_postedIx, charge tier]
    rfl

/-- What a create request writes, from parameters in range (R18). -/
theorem State.ParamsOk.syntheticDemand_ok {s : State} (h : s.ParamsOk) (z : Zone) : (s.syntheticDemand z).Ok (gIx z) := by
  obtain ⟨low, high⟩ := h.num_range (q := .synthAmount z) (lo := 1) (hi := 480) (v := 40) rfl rfl
  refine .of_waiting rfl rfl rfl rfl (by simp [State.syntheticDemand]) ⟨low, high⟩ (fun posted => absurd (by rw [zoneOfIx_gIx]) posted)
    (fun _ => ⟨rfl, rfl, rfl⟩) (fun zone => ?_) fun tier => Tier.noConfusion tier
  rw [zoneOfIx_gIx] at zone
  subst zone
  obtain ⟨⟨n, mem, value⟩, -⟩ := h.admits (q := .synthSense .motor) (v := 0) rfl
  obtain rfl : n = 0 := by simpa using mem
  simp [State.syntheticDemand, State.num, value]

/-- A cycle's write-back of an entry that grants no more than was asked (R16, R17). -/
theorem Demand.Ok.writeBack {i : Fin 15} {d : Demand} (h : d.Ok i) (stands : d.stands = true) {e : GrantEntry}
    (within : e.total ≤ d.asked) (limit : Nat) : (d.writeBack e limit).Ok i := by
  obtain ⟨w1, w15, a1, a480, s255⟩ := h.ranges stands
  have leased := h.leased
  have synthetic := h.synthetic
  have motor := h.motorCools stands
  have charge := h.chargeOnBattery stands
  unfold Demand.writeBack
  split
  · exact ⟨fun free => by simp [Demand.stands] at free, fun _ => ⟨w1, w15, a1, a480, s255⟩, rfl, h.episode,
      fun posted _ => leased posted stands, fun own _ => synthetic own stands, fun _ => motor, fun _ => charge⟩
  split
  next all =>
    exact ⟨fun free => by simp [Demand.stands] at free, fun _ => ⟨w1, w15, a1, a480, Nat.zero_le _⟩, all, fun _ => rfl,
      fun posted _ => leased posted stands, fun own _ => synthetic own stands, fun _ => motor, fun _ => charge⟩
  next part =>
  split
  next some =>
    exact ⟨fun free => by simp [Demand.stands] at free, fun _ => ⟨w1, w15, a1, a480, Nat.zero_le _⟩,
      ⟨some, Nat.lt_of_le_of_ne within part⟩, fun _ => rfl,
      fun posted _ => leased posted stands, fun own _ => synthetic own stands, fun _ => motor, fun _ => charge⟩
  next =>
    exact ⟨fun free => by simp [Demand.stands] at free, fun _ => ⟨w1, w15, a1, a480, by dsimp only; omega⟩, rfl,
      fun none => by dsimp only at none; omega,
      fun posted _ => leased posted stands, fun own _ => synthetic own stands, fun _ => motor, fun _ => charge⟩

/-! ## Writes to the table -/

section
variable {s t : State} (h : s.DemandsOk)
include h

theorem State.DemandsOk.slot (i : Fin 15) : (s.demand i).Ok i := (State.demandsOk_iff.mp h).2.2.1 i

/-- A write that leaves every slot standing or free, and every sense, as it was. -/
theorem State.DemandsOk.rewrite (age : t.age = s.age) (stands : ∀ i, (t.demand i).stands = (s.demand i).stands)
    (sense : ∀ i, (t.demand i).sense = (s.demand i).sense) (slots : ∀ i, (t.demand i).Ok i) : t.DemandsOk := by
  refine State.demandsOk_iff.mpr ⟨by rw [age]; exact h.ageNodup, fun i => by rw [age, stands]; exact h.ageExact i, slots, ?_⟩
  intro z j k
  rw [stands, stands, sense, sense]
  exact h.oneSense z j k

theorem State.DemandsOk.freeSlot (i : Fin 15) : (s.freeSlot i).DemandsOk := by
  have demand (j : Fin 15) : (s.freeSlot i).demand j = if j = i then Demand.freeSlot else s.demand j := s.freeSlot_demand i j
  refine State.demandsOk_iff.mpr ⟨?_, fun j => ?_, fun j => ?_, fun z j k => ?_⟩
  · rw [State.freeSlot_age]
    exact h.ageNodup.erase i
  · rw [State.freeSlot_age, h.ageNodup.mem_erase_iff, h.ageExact, demand]
    split
    next own => simp [own, Demand.freeSlot, Demand.stands]
    next other => simp [other]
  · rw [demand]
    split
    · exact Demand.freeSlot_ok j
    · exact h.slot j
  · rw [demand, demand]
    split
    · exact fun free => absurd free Bool.false_ne_true
    split
    · exact fun _ free => absurd free Bool.false_ne_true
    · exact h.oneSense z j k

/-- A sound demand written, of its zone's sense (R6, R8, R9, R18, R20). -/
theorem State.DemandsOk.writeDemand {i : Fin 15} {d : Demand} (ok : d.Ok i) (stands : d.stands = true)
    (sense : ∀ z k, i = postedIx z k → ∀ j, j ≠ k → (s.demand (postedIx z j)).stands = true → (s.demand (postedIx z j)).sense = d.sense)
    (keep : Bool) : (s.writeDemand i d keep).DemandsOk := by
  have demand (j : Fin 15) : (s.writeDemand i d keep).demand j = if j = i then d else s.demand j := s.writeDemand_demand i j d keep
  have erased : i ∉ s.age.erase i := fun mem => (h.ageNodup.mem_erase_iff.mp mem).1 rfl
  refine State.demandsOk_iff.mpr ⟨?_, fun j => ?_, fun j => ?_, fun z j k => ?_⟩
  · rw [State.writeDemand_age]
    split
    · exact h.ageNodup
    · exact (h.ageNodup.erase i).append (List.nodup_singleton i) (List.disjoint_singleton.mpr erased)
  · rw [State.writeDemand_age, demand]
    split
    next kept =>
      rw [h.ageExact]
      split
      next own => rw [own, stands, kept.1]
      next => exact Iff.rfl
    next =>
      rw [List.mem_append, List.mem_singleton, h.ageNodup.mem_erase_iff, h.ageExact]
      split
      next own => simp [own, stands]
      next other => simp [other]
  · rw [demand]
    split
    next own => exact own ▸ ok
    next => exact h.slot j
  · rw [demand, demand]
    by_cases first : postedIx z j = i <;> by_cases second : postedIx z k = i <;> simp only [first, second, if_true, if_false]
    · exact fun _ _ => trivial
    · intro _ there
      exact (sense z j first.symm k (fun e => second (e ▸ first)) there).symm
    · intro there _
      exact sense z k second.symm j (fun e => first (e ▸ second)) there
    · exact h.oneSense z j k

theorem State.DemandsOk.postCommand (p : Port) (slot sense tier weight : Byte) (asked : Word) (lease : Byte) :
    (postCommand p slot sense tier weight asked lease s).state.DemandsOk := by
  rcases postCommand_state p slot sense tier weight asked lease s with e | ⟨k, x, t, keep, -, motor, charge, some, rule, e⟩ <;> rw [e]
  · exact h
  refine h.writeDemand (postedDemand_ok k weight lease motor charge some) rfl (fun z l own j other stands => ?_) keep
  obtain ⟨zone, rfl⟩ := postedIx_inj.mp own
  subst zone
  have agrees := List.all_eq_true.mp rule j (by fin_cases j <;> simp)
  have same : (s.demand (postedIx (portZone p) j)).sense = x := by simpa [other, stands] using agrees
  exact same

theorem State.DemandsOk.createSynthetic (params : s.ParamsOk) (z : Zone) : (s.createSynthetic z).DemandsOk :=
  h.writeDemand (params.syntheticDemand_ok z) rfl (fun y k own => absurd own.symm (postedIx_ne_gIx y z k)) true

theorem State.DemandsOk.withdrawSynthetic (z : Zone) : (s.withdrawSynthetic z).DemandsOk := by
  unfold State.withdrawSynthetic
  split
  · exact h.freeSlot _
  · exact h

/-! ## Guards -/

theorem State.DemandsOk.endSynth (z : Zone) (old : GuardAction) : (s.endSynth z old).DemandsOk := by
  unfold State.endSynth
  split
  · exact h.withdrawSynthetic z
  · exact h
  · exact h

theorem State.DemandsOk.tripAwake (params : s.ParamsOk) (z : Zone) : (s.tripAwake z).DemandsOk := by
  have noticed : ((s.setZone z (s.zone z).afterTrip).notify .guard (zonePort z)).DemandsOk := h.congr (by simp) (by simp)
  have acted : (((s.setZone z (s.zone z).afterTrip).notify .guard (zonePort z)).tripAction z).DemandsOk := by
    unfold State.tripAction
    split
    · exact noticed
    · exact noticed.createSynthetic (params.congr (by simp)) z
    · exact noticed.congr (by simp) (by simp)
  exact acted.congr rfl rfl

theorem State.DemandsOk.trip (params : s.ParamsOk) (z : Zone) : (s.trip z).DemandsOk := by
  unfold State.trip
  split
  · have parked : (s.changeRegime .park).DemandsOk := h.congr (by simp) (by simp)
    exact (parked.tripAwake (params.congr (by simp)) z).congr (by simp) (by simp)
  · exact h.tripAwake params z

theorem State.DemandsOk.returnToMatch (z : Zone) (old : GuardAction) : (s.returnToMatch z old).DemandsOk := by
  have armed : (s.setZone z { s.zone z with guard := .armed }).DemandsOk := h.congr rfl rfl
  exact (armed.endSynth z old).congr rfl rfl

theorem State.DemandsOk.evaluate (params : s.ParamsOk) (z : Zone) : (s.evaluate z).DemandsOk := by
  obtain ⟨e, -⟩ | ⟨-, -, e⟩ | ⟨-, -, e⟩ := s.evaluate_cases z <;> rw [e]
  · exact h
  · exact h.trip params z
  · exact h.returnToMatch z _

theorem State.DemandsOk.setZone (z : Zone) (x : ZoneMonitor) : (s.setZone z x).DemandsOk := h.congr rfl rfl

theorem State.DemandsOk.withConditions (params : s.ParamsOk) (z : Zone) (c : Conditions) : (s.withConditions z c).DemandsOk := by
  unfold State.withConditions
  split
  · exact h
  · exact (h.setZone z _).evaluate (params.congr rfl) z

theorem State.DemandsOk.guardWritten (params : s.ParamsOk) (z : Zone) (old : GuardAction) : (s.guardWritten z old).DemandsOk := by
  unfold State.guardWritten
  repeat' split
  · exact h
  · exact h
  · exact h.trip params z
  · exact h.returnToMatch z old
  · exact h.trip params z
  · exact (h.trip params z).endSynth z old

theorem State.DemandsOk.armGuard (params : s.ParamsOk) (z : Zone) : (s.armGuard z).DemandsOk :=
  (h.setZone z _).evaluate (params.congr rfl) z

end

end Sys2Proof.Machine
end

section
/-!
PROOFS. The Demand Table through every command and event.
-/

namespace Sys2Proof.Machine

section
variable {s t : State} (h : s.DemandsOk)
include h

/-! ## Measurements that reach a guard -/

theorem State.DemandsOk.convertChannel (params : s.ParamsOk) (ch : TempCh) (code : BitVec 12) : (convertChannel s ch code).DemandsOk := by
  have written : (s.setTemp ch (s.convertedChannel ch code)).DemandsOk := h.congr rfl rfl
  unfold Machine.convertChannel State.refreshTemperature
  dsimp only
  split
  · exact written.withConditions (params.congr rfl) _ _
  · exact written

theorem State.DemandsOk.expireHold (params : s.ParamsOk) (ch : TempCh) : (expireHold s ch).DemandsOk := by
  have written (x : TempChannel) : (s.setTemp ch x).DemandsOk := h.congr rfl rfl
  unfold Machine.expireHold State.refreshBlind
  dsimp only
  split
  · split
    · exact (written _).withConditions (params.congr rfl) _ _
    · exact written _
  · exact h

theorem State.DemandsOk.updateFlow (params : s.ParamsOk) (l : Loop) (c : FlowChannel) : (s.updateFlow l c).DemandsOk := by
  have written : (s.setFlow l c).DemandsOk := h.congr rfl rfl
  unfold State.updateFlow State.refreshStall
  split
  · exact written
  · exact written.withConditions (params.congr rfl) _ _

theorem State.DemandsOk.channelsToInit (params : s.ParamsOk) : s.channelsToInit.DemandsOk := by
  have begun : State.DemandsOk { s with temps := mapTable TempChannel.toInit s.temps } := h.congr rfl rfl
  have motor := begun.withConditions (params.congr rfl) .motor
  unfold State.channelsToInit State.refreshInit
  exact ((motor _).withConditions (params.congr (by simp)) .battery _).withConditions (params.congr (by simp)) .cabin _

theorem State.DemandsOk.judgeLoop (params : s.ParamsOk) (l : Loop) (settled : Bool) : (s.judgeLoop l settled).DemandsOk := by
  have recorded : (s.setRecord l (s.judged l settled)).DemandsOk := h.congr rfl rfl
  unfold State.judgeLoop
  dsimp only
  split
  · have noticed : ((s.setRecord l (s.judged l settled)).notify .shortfall (zonePort (loopZone l))).DemandsOk :=
      recorded.congr (by simp) (by simp)
    exact noticed.withConditions (params.congr (by simp)) _ _
  · exact recorded.withConditions (params.congr rfl) _ _

/-! ## A cycle -/

omit h in
theorem Demand.writeBack_asked (d : Demand) (e : GrantEntry) (limit : Nat) : (d.writeBack e limit).asked = d.asked := by
  unfold Demand.writeBack
  split_ifs <;> rfl

omit h in
theorem Demand.writeBack_sense (d : Demand) (e : GrantEntry) (limit : Nat) : (d.writeBack e limit).sense = d.sense := by
  unfold Demand.writeBack
  split_ifs <;> rfl

theorem State.DemandsOk.writeBackEntry {e : GrantEntry} (stands : (s.demand e.ix).stands = true)
    (within : e.total ≤ (s.demand e.ix).asked) : (s.writeBackEntry e).DemandsOk := by
  refine h.rewrite (by simp) (fun i => ?_) (fun i => ?_) fun i => ?_ <;> rw [State.writeBackEntry_demand] <;> split
  next own => rw [Demand.writeBack_stands, own, stands]
  next => rfl
  next own => rw [Demand.writeBack_sense, own]
  next => rfl
  next own => exact own ▸ (h.slot e.ix).writeBack stands within _
  next => exact h.slot i

omit h in
/-- Entries of standing demands, each within what was asked, leave the table sound (R16). -/
theorem foldl_writeBackEntry_ok {es : List GrantEntry} : ∀ {s : State}, s.DemandsOk →
    (∀ e ∈ es, (s.demand e.ix).stands = true ∧ e.total ≤ (s.demand e.ix).asked) → (es.foldl State.writeBackEntry s).DemandsOk := by
  induction es with
  | nil => exact fun h _ => h
  | cons e es ih =>
    intro s h sound
    obtain ⟨stands, within⟩ := sound e List.mem_cons_self
    refine ih (h.writeBackEntry stands within) fun f mem => ?_
    obtain ⟨stands', within'⟩ := sound f (List.mem_cons_of_mem e mem)
    rw [State.writeBackEntry_demand]
    split
    next own => rw [own] at within'; exact ⟨Demand.writeBack_stands .., by rwa [Demand.writeBack_asked]⟩
    next => exact ⟨stands', within'⟩

omit h in
theorem State.grantSet_within {g : GrantEntry} (mem : g ∈ s.grantSet.entries) : g.total ≤ (s.demand g.ix).asked := by
  obtain ⟨e, -, rfl, of⟩ := State.mem_grantSet_entries mem
  exact of.asked ▸ of.within

theorem State.DemandsOk.runCycle (params : s.ParamsOk) : s.runCycle.DemandsOk := by
  have begun : s.cycleBegun.DemandsOk := h.congr (by simp) (by simp)
  have written : (s.cycleBegun.writeBackAll s.cycleBegun.grantSet).DemandsOk :=
    foldl_writeBackEntry_ok begun fun e mem => ⟨State.grantSet_stands mem, State.grantSet_within mem⟩
  have published : s.atPublication.DemandsOk := written.congr (by simp [State.atPublication]) (by simp [State.atPublication])
  have judged : s.atJudgement.DemandsOk := by
    rw [State.atJudgement_eq]
    exact published.congr (by simp) (by simp)
  rw [State.runCycle_eq_judgeLoops]
  have params' : s.atJudgement.ParamsOk := params.congr (by simp [State.atJudgement_eq])
  exact (judged.judgeLoop params' .motor _).judgeLoop (params'.congr (by simp)) .battery _

/-! ## Commands -/

theorem State.DemandsOk.renewSlot {i : Fin 15} (posted : i ≠ gIx (zoneOfIx i)) (stands : (s.demand i).stands = true) :
    (s.renewSlot i).DemandsOk := by
  have demand (j : Fin 15) : (s.renewSlot i).demand j =
      if j = i then { s.demand i with lease := some (seconds (s.demand i).leaseLength) } else s.demand j := s.demand_setDemand ..
  refine h.rewrite rfl (fun j => s.renewSlot_stands i j) (fun j => ?_) fun j => ?_ <;> rw [demand] <;> split
  next own => rw [own]
  next => rfl
  next own =>
    rw [own]
    obtain ⟨-, ranges, granted, episode, leased, -, motor, charge⟩ := h.slot i
    obtain ⟨l1, l60, -⟩ := leased posted stands
    exact ⟨fun free => absurd (stands.symm.trans free) (by decide), ranges, granted, episode,
      fun _ _ => ⟨l1, l60, _, rfl, Nat.le_refl _⟩, fun g => absurd g posted, motor, charge⟩
  next => exact h.slot j

omit h in
theorem foldl_renewSlot_ok {z : Zone} {ks : List (Fin 4)} : ∀ {s : State}, s.DemandsOk →
    (∀ k ∈ ks, (s.demand (postedIx z k)).stands = true) →
    (ks.foldl (fun t k => t.renewSlot (postedIx z k)) s).DemandsOk := by
  induction ks with
  | nil => exact fun h _ => h
  | cons k ks ih =>
    intro s h stands
    refine ih (h.renewSlot (postedIx_not_g z k) (stands k List.mem_cons_self)) fun j mem => ?_
    rw [State.renewSlot_stands]
    exact stands j (List.mem_cons_of_mem k mem)

theorem State.DemandsOk.renewCommand (p : Port) (slots : Byte) : (renewCommand p slots s).state.DemandsOk := by
  unfold Machine.renewCommand slotAnswer
  split
  · exact h
  split
  · exact h
  · exact foldl_renewSlot_ok h fun k mem => (List.mem_filter.mp mem).2

omit h in
theorem foldl_freeSlot_ok {z : Zone} {ks : List (Fin 4)} : ∀ {s : State}, s.DemandsOk →
    (ks.foldl (fun t k => t.freeSlot (postedIx z k)) s).DemandsOk := by
  induction ks with
  | nil => exact id
  | cons k ks ih => exact fun h => ih (h.freeSlot _)

theorem State.DemandsOk.dropCommand (p : Port) (slots : Byte) : (dropCommand p slots s).state.DemandsOk := by
  unfold Machine.dropCommand slotAnswer
  split
  · exact h
  split
  · exact h
  · exact foldl_freeSlot_ok h

theorem State.DemandsOk.expireLease (z : Zone) (k : Fin 4) : (expireLease s z k).DemandsOk := by
  unfold Machine.expireLease
  split
  · exact (h.freeSlot (postedIx z k)).congr (by simp) (by simp)
  · exact h

theorem State.DemandsOk.takeWrite (p : Port) (q : Param) (j : Judged)
    (stored : ((s.storeParam p q j.value j.second).lowerCompMin p q).ParamsOk) : (s.takeWrite p q j).DemandsOk := by
  have written : ((s.storeParam p q j.value j.second).lowerCompMin p q).DemandsOk := h.congr (by simp) (by simp)
  unfold State.takeWrite State.writeInRun State.writeInSetup
  dsimp only
  split
  · split
    · exact written.guardWritten stored _ _
    · exact written
  · have reached : (if q.isConvPt then ((s.storeParam p q j.value j.second).lowerCompMin p q).channelsToInit
        else (s.storeParam p q j.value j.second).lowerCompMin p q).DemandsOk := by
      split
      · exact written.channelsToInit stored
      · exact written
    split <;> exact reached.congr (by simp) (by simp)

theorem State.DemandsOk.setpCommand (params : s.ParamsOk) (p : Port) (id : Byte) (first second : Word) :
    (setpCommand p id first second s).state.DemandsOk := by
  rcases setpCommand_state p id first second s with e | ⟨q, j, owned, -, judged, e⟩ <;> rw [e]
  · exact h
  · exact h.takeWrite p q j (params.stored owned judged)

theorem State.DemandsOk.enterRun (params : s.ParamsOk) : s.enterRun.DemandsOk := by
  have entering : s.enteringRun.allocatorRunEntry.DemandsOk := h.congr (by simp [State.enteringRun]) (by simp [State.enteringRun])
  have same : s.enteringRun.allocatorRunEntry.ParamsOk := params.congr (by simp [State.enteringRun])
  have armed : s.guardsArmed.DemandsOk :=
    ((entering.armGuard same .motor).armGuard (same.congr (by simp)) .battery).armGuard (same.congr (by simp)) .cabin
  rw [State.enterRun_eq]
  exact armed.congr (by simp) (by simp)

theorem State.DemandsOk.startCommand (params : s.ParamsOk) (p : Port) : (startCommand p s).state.DemandsOk := by
  rcases startCommand_state p s with e | ⟨-, -, e⟩ <;> rw [e]
  · exact h
  have voted : (s.setVote p true).DemandsOk := h.congr rfl rfl
  unfold State.addVote State.validate
  dsimp only
  split
  · split
    · exact voted.enterRun (params.congr rfl)
    · exact voted.congr (by simp) (by simp)
  · exact voted

/-! ## Time and resets -/

omit h in
theorem Demand.Ok.tick {i : Fin 15} {d : Demand} (ok : d.Ok i) : d.tick.Ok i where
  freeClear free := by rw [ok.freeClear free]; rfl
  ranges := ok.ranges
  granted := ok.granted
  episode := ok.episode
  leased posted stands := by
    obtain ⟨l1, l60, us, lease, within⟩ := ok.leased posted stands
    exact ⟨l1, l60, us - Sys2Proof.Config.tickMicros, by simp [Demand.tick, lease, tickTimer], (Nat.sub_le ..).trans within⟩
  synthetic own stands := by
    obtain ⟨tier, weight, none⟩ := ok.synthetic own stands
    exact ⟨tier, weight, by simp [Demand.tick, none, tickTimer]⟩
  motorCools := ok.motorCools
  chargeOnBattery := ok.chargeOnBattery

theorem State.DemandsOk.tick : s.tick.DemandsOk := by
  have demand (i : Fin 15) : s.tick.demand i = (s.demand i).tick := get_mapTable ..
  refine h.rewrite rfl (fun i => ?_) (fun i => ?_) fun i => ?_ <;> rw [demand]
  · rfl
  · rfl
  · exact (h.slot i).tick

omit h in
theorem State.resetWith_demandsOk (s : State) (r : ResetRecord) : (s.resetWith r).DemandsOk := by
  have fresh : (State.afterReset r s.hvReady s.valveAt #v[(s.port .M).selected, (s.port .B).selected, (s.port .C).selected]
      s.pending s.timeBase).DemandsOk := by
    have demand (i : Fin 15) : (State.afterReset r s.hvReady s.valveAt
        #v[(s.port .M).selected, (s.port .B).selected, (s.port .C).selected] s.pending s.timeBase).demand i = Demand.freeSlot := by
      exact Vector.getElem_replicate ..
    refine State.demandsOk_iff.mpr ⟨List.nodup_nil, fun i => ?_, fun i => demand i ▸ Demand.freeSlot_ok i, fun z j k => ?_⟩
    · rw [demand]
      exact iff_of_false List.not_mem_nil Bool.false_ne_true
    · rw [demand]
      exact fun free => absurd free Bool.false_ne_true
  exact fresh.congr (by simp [State.resetWith]) (by simp [State.resetWith])

end

/-- The parameters and the table, of which the table is what a step may reach. -/
def State.TableOk (s : State) : Prop := s.ParamsOk ∧ s.DemandsOk

theorem State.TableOk.congr {s t : State} (h : s.TableOk) (params : t.params = s.params) (demands : t.demands = s.demands)
    (age : t.age = s.age) : t.TableOk := ⟨h.1.congr params, h.2.congr demands age⟩

/-- What every frame, command, event, reset and tick keeps of the table, beside the parameters. -/
theorem tableOk_kept : Kept State.TableOk where
  pending _ h := h.congr rfl rfl rfl
  tick h := ⟨paramsOk_kept.tick h.1, h.2.tick⟩
  reset r h := ⟨paramsOk_kept.reset r h.1, State.resetWith_demandsOk _ r⟩
  shiftOut _ _ h := h.congr (by simp) (by simp) (by simp)
  stage _ _ h := h.congr (by simp) (by simp) (by simp)
  arrives _ _ h := h.congr (by simp) (by simp) (by simp)
  post p slot sense tier weight asked lease awake h :=
    ⟨paramsOk_kept.post p slot sense tier weight asked lease awake h.1, h.2.postCommand p slot sense tier weight asked lease⟩
  renew p slots h := ⟨paramsOk_kept.renew p slots h.1, h.2.renewCommand p slots⟩
  drop p slots h := ⟨paramsOk_kept.drop p slots h.1, h.2.dropCommand p slots⟩
  allow _ _ _ h := h.congr (by simp) (by simp) (by simp)
  vote _ _ _ h := h.congr (by simp) (by simp) (by simp)
  setp p id a b h := ⟨paramsOk_kept.setp p id a b h.1, h.2.setpCommand h.1 p id a b⟩
  start p h := ⟨paramsOk_kept.start p h.1, h.2.startCommand h.1 p⟩
  unstart _ h := h.congr (by simp) (by simp) (by simp)
  force _ _ h := h.congr (by simp [forceCommand]) (by simp [forceCommand]) (by simp [forceCommand])
  forceRelease _ h := h.congr (by simp [forceReleaseCommand]) (by simp [forceReleaseCommand]) (by simp [forceReleaseCommand])
  clearvalve h := h.congr (by simp) (by simp) (by simp)
  next _ h := h.congr (by simp) (by simp) (by simp)
  ack _ _ h := h.congr (by simp) (by simp) (by simp)
  enable _ _ h := h.congr (by simp) (by simp) (by simp)
  leaseExpiry z k h := ⟨paramsOk_kept.leaseExpiry z k h.1, h.2.expireLease z k⟩
  cycleExpiry h := by
    refine ⟨paramsOk_kept.cycleExpiry h.1, ?_⟩
    unfold expireCycle
    split
    · exact h.2.runCycle h.1
    · exact h.2
  allowanceLeaseExpiry h := h.congr (by simp) (by simp) (by simp)
  dwellExpiry h := h.congr (by simp) (by simp) (by simp)
  travelTimeout h := h.congr (by simp) (by simp) (by simp)
  retryAttempt h := h.congr (by simp) (by simp) (by simp)
  valveAtAsserted h := h.congr (by simp) (by simp) (by simp)
  valveAtDeasserted h := h.congr (by simp) (by simp) (by simp)
  hvReadyRise h := h.congr (by simp) (by simp) (by simp)
  hvReadyFall h := h.congr (by simp) (by simp) (by simp)
  primeTimerExpiry h := h.congr (by simp) (by simp) (by simp)
  dormantTimerExpiry h := h.congr (by simp) (by simp) (by simp)
  linkTimerExpiry _ h := h.congr (by simp) (by simp) (by simp)
  conversion ch code h := ⟨paramsOk_kept.conversion ch code h.1, h.2.convertChannel h.1 ch code⟩
  holdExpiry ch h := ⟨paramsOk_kept.holdExpiry ch h.1, h.2.expireHold h.1 ch⟩
  flowEdge l h := ⟨paramsOk_kept.flowEdge l h.1, h.2.updateFlow h.1 l _⟩
  stallExpiry l h := by
    refine ⟨paramsOk_kept.stallExpiry l h.1, ?_⟩
    unfold expireStall
    split
    · exact h.2.updateFlow h.1 l _
    · exact h.2
  periodBoundary _ h := h.congr (by simp) (by simp) (by simp)

/-- Settles O54. -/
theorem stepsKeepTheDemandTableSound : Obligations.StepsKeepTheDemandTableSound :=
  fun _ _ run params h => (tableOk_kept.step run ⟨params, h⟩).2

end Sys2Proof.Machine
end

section
/-!
PROOFS. What a trip, a return to match and a live write of a guard do to the Demand Table, to SHED and to the guard (R125 to R130);
and what they keep of the agreement between a guard, its synthetic demand and SHED.
-/

namespace Sys2Proof.Machine

section
variable (s : State) (z : Zone)

/-! ## The Demand Table -/

theorem State.syntheticDemand_congr {s t : State} (params : t.params = s.params) (z : Zone) :
    t.syntheticDemand z = s.syntheticDemand z := by
  simp only [State.syntheticDemand, State.num_congr params]

theorem State.guardAction_congr {s t : State} (params : t.params = s.params) (z : Zone) : t.guardAction z = s.guardAction z := by
  simp only [State.guardAction, State.num_congr params]

theorem State.guardMatches_congr {s t : State} {z : Zone} (cond : (t.zone z).cond = (s.zone z).cond) (params : t.params = s.params) :
    t.guardMatches z = s.guardMatches z := by
  simp only [State.guardMatches, cond, State.num_congr params]

theorem State.tripAwake_demand (i : Fin 15) : (s.tripAwake z).demand i =
    if i = gIx z ∧ s.guardAction z = .synth then s.syntheticDemand z else s.demand i := by
  let noticed := (s.setZone z (s.zone z).afterTrip).notify .guard (zonePort z)
  have params : noticed.params = s.params := by simp [noticed]
  have table (j : Fin 15) : noticed.demand j = s.demand j := State.demand_congr (by simp [noticed]) j
  have acted : (s.tripAwake z).demand i = (noticed.tripAction z).demand i := State.demand_congr (by rfl) i
  rw [acted, State.tripAction, State.guardAction_congr params]
  cases s.guardAction z
  case notice => simp [table]
  case synth => simp only [State.createSynthetic_demand, State.syntheticDemand_congr params, table, and_true]
  case shed => rw [if_neg (by simp), State.demand_congr (s := noticed) (by simp), table]

/-- The synthetic demand of a trip whose action is SYNTH (R128). -/
theorem State.trip_demand (i : Fin 15) : (s.trip z).demand i =
    if i = gIx z ∧ s.guardAction z = .synth then s.syntheticDemand z else s.demand i := by
  unfold State.trip
  split
  · have params : (s.changeRegime .park).params = s.params := by simp
    rw [State.demand_congr (s := (s.changeRegime .park).tripAwake z) (by simp), State.tripAwake_demand,
      State.guardAction_congr params, State.syntheticDemand_congr params, State.demand_congr (s := s) (by simp)]
  · exact s.tripAwake_demand z i

theorem State.endSynth_demand (old : GuardAction) (i : Fin 15) : (s.endSynth z old).demand i =
    if i = gIx z ∧ old = .synth ∧ (s.demand (gIx z)).stands = true then Demand.freeSlot else s.demand i := by
  cases old <;> simp [State.endSynth, State.withdrawSynthetic_demand]

theorem State.returnToMatch_demand (old : GuardAction) (i : Fin 15) : (s.returnToMatch z old).demand i =
    if i = gIx z ∧ old = .synth ∧ (s.demand (gIx z)).stands = true then Demand.freeSlot else s.demand i := by
  have armed (j : Fin 15) : (s.setZone z { s.zone z with guard := .armed }).demand j = s.demand j := rfl
  have ended : (s.returnToMatch z old).demand i = ((s.setZone z { s.zone z with guard := .armed }).endSynth z old).demand i :=
    State.demand_congr (by rfl) i
  rw [ended, State.endSynth_demand, armed, armed]

/-! ## SHED -/

theorem State.shedWanted_congr {s t : State} (guard : ∀ z, (t.zone z).guard = (s.zone z).guard) (params : t.params = s.params) :
    t.shedWanted = s.shedWanted := by
  simp only [State.shedWanted, guard, State.guardAction_congr params]

theorem State.shedWanted_iff : s.shedWanted = true ↔ ∃ z, (s.zone z).guard = .tripped ∧ s.guardAction z = .shed := by
  have listed (z : Zone) : z ∈ allZones := by cases z <;> decide
  simp [State.shedWanted, listed]

theorem State.trip_shed : (s.trip z).shed = (s.trip z).shedWanted := by
  unfold State.trip
  split
  · have upkept : ((s.changeRegime .park).tripAwake z).shed = ((s.changeRegime .park).tripAwake z).shedWanted := rfl
    rw [State.shedWanted_congr (s := (s.changeRegime .park).tripAwake z) (fun y => congrArg _ (State.zone_congr (by simp) y)) (by simp),
      ← upkept]
    simp
  · rfl

theorem State.returnToMatch_shed (old : GuardAction) : (s.returnToMatch z old).shed = (s.returnToMatch z old).shedWanted := rfl

/-- An evaluation brings SHED up to date wherever it moves the guard (R129). -/
theorem State.evaluate_shed (h : s.shed = s.shedWanted) : (s.evaluate z).shed = (s.evaluate z).shedWanted := by
  obtain ⟨e, -⟩ | ⟨-, -, e⟩ | ⟨-, -, e⟩ := s.evaluate_cases z <;> rw [e]
  · exact h
  · exact s.trip_shed z
  · exact s.returnToMatch_shed z _

/-! ## The guard in agreement -/

/-- What R123 to R130 say of one guard: its counter, that it is UNARMED in SETUP alone, that it matches exactly while ARMED, and that
its synthetic demand stands exactly while it is TRIPPED with action SYNTH, `action` being that action. -/
structure State.GuardFit (s : State) (z : Zone) (action : GuardAction) : Prop where
  trips : (s.zone z).trips ≤ 255
  unarmed : (s.zone z).guard = .unarmed ↔ s.running = false
  synthetic : (s.demand (gIx z)).stands = true ↔ (s.zone z).guard = .tripped ∧ action = .synth

/-- A guard whose evaluation is up to date. -/
structure State.GuardOk (s : State) (z : Zone) : Prop extends s.GuardFit z (s.guardAction z) where
  armed : (s.zone z).guard = .armed → s.guardMatches z = true
  tripped : (s.zone z).guard = .tripped → s.guardMatches z = false

end

section
variable {s t : State} {z : Zone}

theorem State.GuardFit.congr {action : GuardAction} (h : s.GuardFit z action) (trips : (t.zone z).trips = (s.zone z).trips)
    (guard : (t.zone z).guard = (s.zone z).guard) (running : t.running = s.running)
    (stands : (t.demand (gIx z)).stands = (s.demand (gIx z)).stands) : t.GuardFit z action :=
  ⟨trips ▸ h.trips, by rw [guard, running]; exact h.unarmed, by rw [stands, guard]; exact h.synthetic⟩

theorem State.GuardOk.congr (h : s.GuardOk z) (zone : t.zone z = s.zone z) (running : t.running = s.running)
    (params : t.params = s.params) (stands : (t.demand (gIx z)).stands = (s.demand (gIx z)).stands) : t.GuardOk z := by
  have m : t.guardMatches z = s.guardMatches z := State.guardMatches_congr (by rw [zone]) params
  refine ⟨?_, ?_, ?_⟩
  · rw [State.guardAction_congr params]
    exact h.toGuardFit.congr (by rw [zone]) (by rw [zone]) running stands
  · rw [zone, m]
    exact h.armed
  · rw [zone, m]
    exact h.tripped

/-- A trip of a guard that does not match leaves it in agreement (R127, R128). -/
theorem State.GuardFit.trip {action : GuardAction} (h : s.GuardFit z action)
    (some : (s.zone z).guard ≠ .unarmed) (missed : s.guardMatches z = false)
    (ended : s.guardAction z = .synth ∨ (s.demand (gIx z)).stands = false) : (s.trip z).GuardOk z := by
  have zone : (s.trip z).zone z = (s.zone z).afterTrip := by rw [State.trip_zone, if_pos rfl]
  have params : (s.trip z).params = s.params := by simp
  have running : (s.trip z).running = s.running := State.running_congr (by simp)
  have m : (s.trip z).guardMatches z = s.guardMatches z := State.guardMatches_congr (s.trip_cond z z) params
  refine ⟨⟨?_, ?_, ?_⟩, ?_, ?_⟩
  · rw [zone]
    exact Nat.min_le_left ..
  · rw [zone, running]
    exact iff_of_false (fun e => GuardState.noConfusion e) fun off => some (h.unarmed.mpr off)
  · rw [State.guardAction_congr params, State.trip_demand, zone]
    by_cases action : s.guardAction z = .synth
    · simp only [action, and_self, if_true]
      exact iff_of_true rfl ⟨rfl, trivial⟩
    · simp only [action, and_false, if_false]
      exact iff_of_false (by rw [ended.resolve_left action]; exact Bool.false_ne_true) id
  · rw [zone]
    exact fun e => GuardState.noConfusion e
  · rw [m]
    exact fun _ => missed

/-- A guard that matches again is ARMED, and what its action had begun is over (R125, R127). -/
theorem State.GuardFit.returnToMatch {old : GuardAction} (h : s.GuardFit z old) (some : (s.zone z).guard ≠ .unarmed)
    (hit : s.guardMatches z = true) : (s.returnToMatch z old).GuardOk z := by
  have zone : (s.returnToMatch z old).zone z = { s.zone z with guard := .armed } := by rw [State.returnToMatch_zone, if_pos rfl]
  have params : (s.returnToMatch z old).params = s.params := by simp
  have running : (s.returnToMatch z old).running = s.running := State.running_congr (by simp)
  have m : (s.returnToMatch z old).guardMatches z = s.guardMatches z := State.guardMatches_congr (s.returnToMatch_cond z z old) params
  refine ⟨⟨?_, ?_, ?_⟩, ?_, ?_⟩
  · rw [zone]
    exact h.trips
  · rw [zone, running]
    exact iff_of_false (fun e => GuardState.noConfusion e) fun off => some (h.unarmed.mpr off)
  · rw [zone]
    refine iff_of_false (fun stands => ?_) fun tripped => GuardState.noConfusion tripped.1
    rw [State.returnToMatch_demand] at stands
    split at stands
    · exact Bool.false_ne_true stands
    next keeps => exact keeps ⟨rfl, (h.synthetic.mp stands).2, stands⟩
  · rw [m]
    exact fun _ => hit
  · rw [zone]
    exact fun e => GuardState.noConfusion e

/-! ## Evaluations -/

/-- An evaluation brings its guard into agreement (R125). -/
theorem State.GuardFit.evaluate (h : s.GuardFit z (s.guardAction z)) : (s.evaluate z).GuardOk z := by
  obtain ⟨e, armed, tripped⟩ | ⟨armed, missed, e⟩ | ⟨tripped, hit, e⟩ := s.evaluate_cases z <;> rw [e]
  · exact ⟨h, armed, tripped⟩
  · refine h.trip (by simp [armed]) missed (.inr (Bool.eq_false_iff.mpr fun stands => ?_))
    exact GuardState.noConfusion (armed.symm.trans (h.synthetic.mp stands).1)
  · exact h.returnToMatch (by simp [tripped]) hit

theorem State.evaluate_demand_of_ne (s : State) (z : Zone) {i : Fin 15} (other : i ≠ gIx z) : (s.evaluate z).demand i = s.demand i := by
  obtain ⟨e, -⟩ | ⟨-, -, e⟩ | ⟨-, -, e⟩ := s.evaluate_cases z <;> rw [e]
  · rw [State.trip_demand, if_neg fun own => other own.1]
  · rw [State.returnToMatch_demand, if_neg fun own => other own.1]

/-- An evaluation of one zone's guard leaves the agreement of the others'. -/
theorem State.GuardOk.evaluate_of_ne {y : Zone} (h : s.GuardOk y) (other : y ≠ z) : (s.evaluate z).GuardOk y :=
  h.congr (s.evaluate_zone_of_ne z other) (State.running_congr (by simp)) (by simp)
    (by rw [State.evaluate_demand_of_ne _ _ (gIx_inj.not.mpr other)])

/-- The guards and SHED in agreement. -/
structure State.GuardsOk (s : State) : Prop where
  guards : ∀ z, s.GuardOk z
  shed : s.shed = s.shedWanted

theorem State.GuardsOk.congr (h : s.GuardsOk) (zones : t.zones = s.zones) (running : t.running = s.running)
    (params : t.params = s.params) (stands : ∀ z, (t.demand (gIx z)).stands = (s.demand (gIx z)).stands) (shed : t.shed = s.shed) :
    t.GuardsOk := by
  refine ⟨fun z => (h.guards z).congr (State.zone_congr zones z) running params (stands z), ?_⟩
  rw [shed, h.shed, State.shedWanted_congr (fun z => by rw [State.zone_congr zones]) params]

/-- New conditions keep the guards and SHED in agreement (R117, R125). -/
theorem State.GuardsOk.withConditions (h : s.GuardsOk) (z : Zone) (c : Conditions) : (s.withConditions z c).GuardsOk := by
  unfold State.withConditions
  split
  · exact h
  have guard (y : Zone) : ((s.setZone z { s.zone z with cond := c }).zone y).guard = (s.zone y).guard := by
    rw [State.zone_setZone]
    split
    next own => rw [own]
    next => rfl
  have trips (y : Zone) : ((s.setZone z { s.zone z with cond := c }).zone y).trips = (s.zone y).trips := by
    rw [State.zone_setZone]
    split
    next own => rw [own]
    next => rfl
  refine ⟨fun y => ?_, State.evaluate_shed _ z ?_⟩
  · by_cases own : y = z
    · subst own
      exact ((h.guards y).toGuardFit.congr (trips y) (guard y) rfl rfl).evaluate
    · have written : (s.setZone z { s.zone z with cond := c }).GuardOk y :=
        (h.guards y).congr (by rw [State.zone_setZone, if_neg own]) rfl rfl rfl
      exact written.evaluate_of_ne own
  · rw [State.shedWanted_congr guard rfl]
    exact h.shed

/-- A live write of a guard's parameter leaves its guard in agreement; `old` is the action before it (R130). -/
theorem State.GuardFit.guardWritten {old : GuardAction} (h : s.GuardFit z old) : (s.guardWritten z old).GuardOk z := by
  have free (not : (s.zone z).guard ≠ .tripped) : (s.demand (gIx z)).stands = false :=
    Bool.eq_false_iff.mpr fun stands => not (h.synthetic.mp stands).1
  have fit (not : (s.zone z).guard ≠ .tripped) : s.GuardFit z (s.guardAction z) :=
    ⟨h.trips, h.unarmed, iff_of_false (by rw [free not]; exact Bool.false_ne_true) fun e => not e.1⟩
  unfold State.guardWritten
  cases guard : (s.zone z).guard <;> dsimp only
  case unarmed => exact ⟨fit (by simp [guard]), by simp [guard], by simp [guard]⟩
  case armed =>
    split
    next hit => exact ⟨fit (by simp [guard]), fun _ => hit, by simp [guard]⟩
    next missed => exact h.trip (by simp [guard]) (by simpa using missed) (.inr (free (by simp [guard])))
  case tripped =>
    split
    next hit => exact h.returnToMatch (by simp [guard]) hit
    next missed =>
      split
      next synth => exact h.trip (by simp [guard]) (by simpa using missed) (.inl synth)
      next other =>
        have zone : ((s.trip z).endSynth z old).zone z = (s.zone z).afterTrip := by
          rw [State.zone_congr (s := s.trip z) (by simp), State.trip_zone, if_pos rfl]
        have params : ((s.trip z).endSynth z old).params = s.params := by simp
        have running : ((s.trip z).endSynth z old).running = s.running := State.running_congr (by simp)
        have some : (s.zone z).guard ≠ .unarmed := by simp [guard]
        refine ⟨⟨?_, ?_, ?_⟩, ?_, ?_⟩
        · rw [zone]
          exact Nat.min_le_left ..
        · rw [zone, running]
          exact iff_of_false (fun e => GuardState.noConfusion e) fun off => some (h.unarmed.mpr off)
        · rw [State.guardAction_congr params]
          refine iff_of_false (fun stands => ?_) fun e => other e.2
          have own : (s.trip z).demand (gIx z) = s.demand (gIx z) := by rw [State.trip_demand, if_neg fun e => other e.2]
          rw [State.endSynth_demand, own] at stands
          split at stands
          · exact Bool.false_ne_true stands
          next keeps => exact keeps ⟨rfl, (h.synthetic.mp stands).2, stands⟩
        · rw [zone]
          exact fun e => GuardState.noConfusion e
        · rw [State.guardMatches_congr (s := s) (by rw [zone]; rfl) params]
          exact fun _ => by simpa using missed

end

/-- What a live write leaves of another zone: its monitor and its synthetic demand. -/
theorem State.guardWritten_zone_of_ne (s : State) {y z : Zone} (old : GuardAction) (other : y ≠ z) :
    (s.guardWritten z old).zone y = s.zone y := by
  unfold State.guardWritten
  repeat' split
  · rfl
  · rfl
  · rw [State.trip_zone, if_neg other]
  · rw [State.returnToMatch_zone, if_neg other]
  · rw [State.trip_zone, if_neg other]
  · rw [State.zone_congr (s := s.trip z) (by simp), State.trip_zone, if_neg other]

theorem State.guardWritten_demand_of_ne (s : State) {i : Fin 15} (z : Zone) (old : GuardAction) (other : i ≠ gIx z) :
    (s.guardWritten z old).demand i = s.demand i := by
  unfold State.guardWritten
  repeat' split
  · rfl
  · rfl
  · rw [State.trip_demand, if_neg fun e => other e.1]
  · rw [State.returnToMatch_demand, if_neg fun e => other e.1]
  · rw [State.trip_demand, if_neg fun e => other e.1]
  · rw [State.endSynth_demand, if_neg fun e => other e.1, State.trip_demand, if_neg fun e => other e.1]

/-- A live write brings SHED up to date wherever it moves the guard; a guard that stays leaves it so (R129, R130). -/
theorem State.guardWritten_shed (s : State) (z : Zone) (old : GuardAction)
    (kept : (s.zone z).guard ≠ .tripped → s.shed = s.shedWanted) : (s.guardWritten z old).shed = (s.guardWritten z old).shedWanted := by
  unfold State.guardWritten
  split
  next guard => exact kept (by simp [guard])
  next guard =>
    split
    · exact kept (by simp [guard])
    · exact s.trip_shed z
  next =>
    split
    · exact s.returnToMatch_shed z old
    split
    · exact s.trip_shed z
    · rw [State.shedWanted_congr (s := s.trip z) (fun y => congrArg _ (State.zone_congr (by simp) y)) (by simp), ← s.trip_shed z]
      simp

end Sys2Proof.Machine
end

section
/-!
PROOFS. What every step keeps of conditions, delivered-heat records, guards and SHED (R109 to R132).
-/

namespace Sys2Proof.Machine

/-! ## Conditions and records -/

/-- What R117 to R122 say of one zone's conditions `c`. -/
structure State.CondOk (s : State) (z : Zone) (c : Conditions) : Prop where
  blind : c.blind = !s.usable (zoneTemp z)
  stall : ∀ l, loopZone l = z → c.stall = ((s.flow l).tag == .stall)
  cabin : z = .cabin → c.stall = false ∧ c.short = false
  highJudged : (s.param (.high z)).written = false → c.high = false
  lowJudged : (s.param (.low z)).written = false → c.low = false
  short : ∀ l, loopZone l = z → c.short = true → 0 < (s.record l).shortfall

/-- The conditions of every zone follow their sources. -/
def State.CondsOk (s : State) : Prop := ∀ z, s.CondOk z (s.zone z).cond

/-- What R109 to R112 say of a loop's record. -/
structure DeliveredRecord.Ok (r : DeliveredRecord) : Prop where
  counted : r.shortfall ≤ 255
  range : -1200 ≤ r.delivered ∧ r.delivered ≤ 1200
  unmeasured : r.measured = false → r.delivered = 0 ∧ r.saturated = false

def State.RecordsOk (s : State) : Prop := ∀ l, (s.record l).Ok

theorem loopZone_ne_cabin (l : Loop) : loopZone l ≠ .cabin := by cases l <;> decide

theorem State.zonesOk_iff {s : State} : s.ZonesOk ↔ s.CondsOk ∧ s.RecordsOk ∧ s.GuardsOk := by
  constructor
  · intro h
    refine ⟨fun z => ⟨h.blind z, ?_, ?_, h.highJudged z, h.lowJudged z, ?_⟩, fun l => ⟨(h.counters l).1, (h.counters l).2, h.unmeasured l⟩,
      ⟨fun z => ⟨⟨h.trips z, h.unarmed z, h.synthetic z⟩, h.armed z, h.tripped z⟩, ?_⟩⟩
    · rintro l rfl
      exact h.stall l
    · rintro rfl
      exact h.cabin
    · rintro l rfl
      exact h.short l
    · rw [Bool.eq_iff_iff, State.shedWanted_iff]
      exact h.shed
  · rintro ⟨conds, records, guards, shed⟩
    exact
      { blind := fun z => (conds z).blind, stall := fun l => (conds _).stall l rfl, cabin := (conds .cabin).cabin rfl
        highJudged := fun z => (conds z).highJudged, lowJudged := fun z => (conds z).lowJudged
        short := fun l => (conds _).short l rfl, counters := fun l => ⟨(records l).counted, (records l).range⟩
        unmeasured := fun l => (records l).unmeasured, trips := fun z => (guards z).trips, unarmed := fun z => (guards z).unarmed
        armed := fun z => (guards z).armed, tripped := fun z => (guards z).tripped, synthetic := fun z => (guards z).synthetic
        shed := by rw [shed, State.shedWanted_iff] }

section
variable {s t : State}

theorem State.CondOk.congr {z : Zone} {c : Conditions} (h : s.CondOk z c) (usable : t.usable (zoneTemp z) = s.usable (zoneTemp z))
    (tag : ∀ l, (t.flow l).tag = (s.flow l).tag) (written : ∀ q, (t.param q).written = false → (s.param q).written = false)
    (delivered : t.delivered = s.delivered) : t.CondOk z c where
  blind := usable ▸ h.blind
  stall l own := tag l ▸ h.stall l own
  cabin := h.cabin
  highJudged clear := h.highJudged (written _ clear)
  lowJudged clear := h.lowJudged (written _ clear)
  short l own set := State.record_congr delivered l ▸ h.short l own set

theorem State.CondOk.congr_parts {z : Zone} {c : Conditions} (h : s.CondOk z c) (temps : t.temps = s.temps) (flows : t.flows = s.flows)
    (params : t.params = s.params) (delivered : t.delivered = s.delivered) : t.CondOk z c :=
  h.congr (State.usable_congr temps _) (fun l => by rw [State.flow_congr flows])
    (fun q => by rw [State.param_congr params]; exact id) delivered

theorem State.CondsOk.congr (h : s.CondsOk) (cond : ∀ z, (t.zone z).cond = (s.zone z).cond)
    (usable : ∀ z, t.usable (zoneTemp z) = s.usable (zoneTemp z)) (tag : ∀ l, (t.flow l).tag = (s.flow l).tag)
    (written : ∀ q, (t.param q).written = false → (s.param q).written = false) (delivered : t.delivered = s.delivered) : t.CondsOk :=
  fun z => cond z ▸ (h z).congr (usable z) tag written delivered

/-- A zone given conditions that follow their sources, the others' following theirs already. -/
theorem State.CondOk.withConditions {z : Zone} {c : Conditions} (own : s.CondOk z c)
    (others : ∀ y, y ≠ z → s.CondOk y (s.zone y).cond) : (s.withConditions z c).CondsOk := by
  intro y
  rw [State.withConditions_cond]
  have same (d : Conditions) (h : s.CondOk y d) : (s.withConditions z c).CondOk y d :=
    h.congr_parts (by simp) (by simp) (by simp) (by simp)
  split
  next e => exact same c (e ▸ own)
  next other => exact same _ (others y other)

theorem State.RecordsOk.congr (h : s.RecordsOk) (delivered : t.delivered = s.delivered) : t.RecordsOk :=
  fun l => State.record_congr delivered l ▸ h l

/-! ## Temperatures -/

theorem State.usable_setTemp (s : State) (ch : TempCh) (x : TempChannel) (k : TempCh) :
    (s.setTemp ch x).usable k = if k = ch then x.tag.usable else s.usable k := by
  rw [State.usable, State.temp_setTemp]
  split <;> rfl

/-- A temperature channel written, and its zone given the conditions that follow. -/
theorem State.CondsOk.setTemp (h : s.CondsOk) {ch : TempCh} {z : Zone} (zone : tempZone ch = some z) (x : TempChannel) {c : Conditions}
    (blind : c.blind = !x.tag.usable) (stall : c.stall = (s.zone z).cond.stall) (short : c.short = (s.zone z).cond.short)
    (high : (s.param (.high z)).written = false → c.high = false) (low : (s.param (.low z)).written = false → c.low = false) :
    ((s.setTemp ch x).withConditions z c).CondsOk := by
  obtain rfl := zoneTemp_of_tempZone zone
  refine State.CondOk.withConditions ⟨?_, ?_, ?_, high, low, ?_⟩ fun y other => ?_
  · rw [State.usable_setTemp, if_pos rfl]
    exact blind
  · exact fun l own => stall.trans ((h z).stall l own)
  · rw [stall, short]
    exact (h z).cabin
  · exact fun l own set => (h z).short l own (short ▸ set)
  · have apart : zoneTemp y ≠ zoneTemp z := by
      intro e
      revert other e
      cases y <;> cases z <;> decide
    exact (h y).congr (by rw [State.usable_setTemp, if_neg apart]) (fun _ => rfl) (fun _ => id) rfl

/-- A temperature channel of no zone reaches no condition. -/
theorem State.CondsOk.setTemp_of_none (h : s.CondsOk) {ch : TempCh} (none : tempZone ch = none) (x : TempChannel) :
    (s.setTemp ch x).CondsOk := by
  refine h.congr (fun _ => rfl) (fun z => ?_) (fun _ => rfl) (fun _ => id) rfl
  rw [State.usable_setTemp, if_neg]
  rintro rfl
  cases z <;> cases none

theorem State.CondsOk.convertChannel (h : s.CondsOk) (ch : TempCh) (code : BitVec 12) : (convertChannel s ch code).CondsOk := by
  unfold Machine.convertChannel State.refreshTemperature
  dsimp only
  split
  next z zone =>
    have own := h z
    refine h.setTemp zone _ ?_ rfl rfl (fun clear => ?_) fun clear => ?_
    · simp only [State.temperatureConditions]
      rw [zoneTemp_of_tempZone zone, State.usable_setTemp, if_pos rfl]
    · have same : ((s.setTemp ch (s.convertedChannel ch code)).param (.high z)).written = false := clear
      simp only [State.temperatureConditions, same, Bool.and_false]
      exact own.highJudged clear
    · have same : ((s.setTemp ch (s.convertedChannel ch code)).param (.low z)).written = false := clear
      simp only [State.temperatureConditions, same, Bool.and_false]
      exact own.lowJudged clear
  next none => exact h.setTemp_of_none none _

theorem State.CondsOk.expireHold (h : s.CondsOk) (ch : TempCh) : (expireHold s ch).CondsOk := by
  unfold Machine.expireHold State.refreshBlind
  dsimp only
  split
  · split
    next z zone =>
      refine h.setTemp zone _ ?_ rfl rfl (h z).highJudged (h z).lowJudged
      dsimp only
      rw [zoneTemp_of_tempZone zone, State.usable_setTemp, if_pos rfl]
    next none => exact h.setTemp_of_none none _
  · exact h

/-- The conditions a channel at INIT leaves: HIGH and LOW false, BLIND true (R117). -/
def Conditions.atInit (c : Conditions) : Conditions := { c with high := false, low := false, blind := true }

theorem State.refreshInit_cond {s : State} {z : Zone} (init : (s.temp (zoneTemp z)).tag = .init) (y : Zone) :
    ((s.refreshInit z).zone y).cond = if y = z then (s.zone z).cond.atInit else (s.zone y).cond := by
  rw [State.refreshInit, State.withConditions_cond, State.usable, init]
  rfl

/-- A write of a conversion point leaves every zone's conditions as at INIT (R90, R117). -/
theorem State.channelsToInit_cond (s : State) (z : Zone) : (s.channelsToInit.zone z).cond = (s.zone z).cond.atInit := by
  let begun : State := { s with temps := mapTable TempChannel.toInit s.temps }
  have init {u : State} (temps : u.temps = begun.temps) (ch : TempCh) : (u.temp ch).tag = .init := by
    rw [State.temp_congr temps]
    exact congrArg TempChannel.tag (get_mapTable ..)
  have motor := State.refreshInit_cond (init (u := begun) rfl (zoneTemp .motor))
  have battery := State.refreshInit_cond (init (u := begun.refreshInit .motor) (by simp) (zoneTemp .battery))
  have cabin := State.refreshInit_cond (init (u := (begun.refreshInit .motor).refreshInit .battery) (by simp) (zoneTemp .cabin))
  have all : (s.channelsToInit.zone z).cond = (begun.zone z).cond.atInit := by
    refine (cabin z).trans ?_
    rw [battery, battery, motor, motor, motor]
    cases z <;> rfl
  exact all

theorem State.CondsOk.channelsToInit (h : s.CondsOk) : s.channelsToInit.CondsOk := by
  intro z
  rw [State.channelsToInit_cond]
  have init : s.channelsToInit.usable (zoneTemp z) = false := by
    rw [State.usable, State.temp, State.channelsToInit_temps, get_mapTable]
    rfl
  refine ⟨by rw [init]; rfl, fun l own => ?_, (h z).cabin, fun _ => rfl, fun _ => rfl, fun l own set => ?_⟩
  · rw [State.flow_congr (s := s) (by simp)]
    exact (h z).stall l own
  · rw [State.record_congr (s := s) (by simp)]
    exact (h z).short l own set

/-! ## Flow -/

theorem State.CondsOk.updateFlow (h : s.CondsOk) (l : Loop) (c : FlowChannel) : (s.updateFlow l c).CondsOk := by
  have tag (k : Loop) : ((s.setFlow l c).flow k).tag = if k = l then c.tag else (s.flow k).tag := by
    rw [State.flow_setFlow]
    split <;> rfl
  unfold State.updateFlow State.refreshStall
  split
  next same =>
    refine h.congr (fun _ => rfl) (fun _ => rfl) (fun k => ?_) (fun _ => id) rfl
    rw [tag]
    split
    next own => rw [own, same]
    next => rfl
  next =>
    refine State.CondOk.withConditions ⟨(h _).blind, fun k own => ?_, fun none => absurd none (loopZone_ne_cabin l), (h _).highJudged,
      (h _).lowJudged, (h _).short⟩ fun y other => ⟨(h y).blind, fun k own => ?_, (h y).cabin, (h y).highJudged, (h y).lowJudged, (h y).short⟩
    · rw [loopZone_inj.mp own]
    · rw [tag, if_neg fun e => other (by rw [← own, e])]
      exact (h y).stall k own

/-! ## The judgement of a loop -/

theorem clampWatts_bounds (q : Int) : -1200 ≤ (clampWatts q).tdiv 50 ∧ (clampWatts q).tdiv 50 ≤ 1200 := by
  have low : -60000 ≤ clampWatts q := Int.le_max_left ..
  have high : clampWatts q ≤ 60000 := by unfold clampWatts; omega
  rw [Int.tdiv_eq_ediv]
  split
  · omega
  · rw [Int.sign_eq_one_of_pos (by decide)]
    omega

theorem State.measure_ok (h : s.RecordsOk) (l : Loop) : (s.measure l).Ok := by
  unfold State.measure
  dsimp only
  split
  · exact ⟨(h l).counted, clampWatts_bounds _, fun none => Bool.noConfusion none⟩
  · exact ⟨(h l).counted, by dsimp only; omega, fun _ => ⟨rfl, rfl⟩⟩

theorem State.measure_shortfall (s : State) (l : Loop) : (s.measure l).shortfall = (s.record l).shortfall := by
  unfold State.measure
  dsimp only
  split <;> rfl

theorem State.judged_ok (h : s.RecordsOk) (l : Loop) (settled : Bool) : (s.judged l settled).Ok := by
  obtain ⟨counted, range, unmeasured⟩ := State.measure_ok h l
  unfold State.judged
  dsimp only
  split
  · exact ⟨counted, range, unmeasured⟩
  split
  · exact ⟨Nat.min_le_left .., range, unmeasured⟩
  · exact ⟨Nat.zero_le _, range, unmeasured⟩

theorem State.RecordsOk.judgeLoop (h : s.RecordsOk) (l : Loop) (settled : Bool) : (s.judgeLoop l settled).RecordsOk := by
  intro k
  rw [State.judgeLoop_record]
  split
  · exact State.judged_ok h l settled
  · exact h k

/-- SHORT stands only on a loop whose counter does (R112, R114). -/
theorem State.shortAfter_counted {l : Loop} {settled : Bool} (before : (s.zone (loopZone l)).cond.short = true → 0 < (s.record l).shortfall)
    (set : s.shortAfter l settled = true) : 0 < (s.judged l settled).shortfall := by
  unfold State.shortAfter at set
  unfold State.judged
  dsimp only at set ⊢
  split
  next unmeasured =>
    rw [if_pos unmeasured] at set
    rw [State.measure_shortfall]
    exact before set
  next measured =>
    rw [if_neg measured] at set
    split
    next => dsimp only; omega
    next fine => rw [if_neg fine] at set; cases set

theorem State.CondsOk.judgeLoop (h : s.CondsOk) (l : Loop) (settled : Bool) : (s.judgeLoop l settled).CondsOk := by
  intro y
  have usable : (s.judgeLoop l settled).usable (zoneTemp y) = s.usable (zoneTemp y) := State.usable_congr (by simp) _
  have tag (k : Loop) : ((s.judgeLoop l settled).flow k).tag = (s.flow k).tag := by rw [State.flow_congr (s := s) (by simp)]
  have param (q : Param) : (s.judgeLoop l settled).param q = s.param q := State.param_congr (by simp) q
  rw [State.judgeLoop_cond]
  split
  next own =>
    subst own
    obtain ⟨blind, stall, cabin, high, low, short⟩ := h (loopZone l)
    refine ⟨usable ▸ blind, fun k own => tag k ▸ stall k own, fun none => absurd none (loopZone_ne_cabin l), fun clear => high (param _ ▸ clear),
      fun clear => low (param _ ▸ clear), fun k own set => ?_⟩
    obtain rfl := loopZone_inj.mp own
    rw [State.judgeLoop_record, if_pos rfl]
    exact State.shortAfter_counted (short k rfl) set
  next other =>
    obtain ⟨blind, stall, cabin, high, low, short⟩ := h y
    refine ⟨usable ▸ blind, fun k own => tag k ▸ stall k own, cabin, fun clear => high (param _ ▸ clear),
      fun clear => low (param _ ▸ clear), fun k own set => ?_⟩
    rw [State.judgeLoop_record, if_neg fun e => other (by rw [← own, e])]
    exact short k own set

end

end Sys2Proof.Machine
end

section
/-!
PROOFS. Guards and SHED through every command and event, and with them the zones (R109 to R132).
-/

namespace Sys2Proof.Machine

section
variable {s t : State}

/-! ## Parameters -/

/-- A guard in agreement where its parameters are read alike. -/
theorem State.GuardOk.reread {z : Zone} (h : s.GuardOk z) (zone : t.zone z = s.zone z) (running : t.running = s.running)
    (stands : (t.demand (gIx z)).stands = (s.demand (gIx z)).stands)
    (params : ∀ q, q.guardZone = some z → t.param q = s.param q) : t.GuardOk z := by
  have action : t.guardAction z = s.guardAction z := by simp only [State.guardAction, State.num, params (.guardAction z) rfl]
  have matches' : t.guardMatches z = s.guardMatches z := by
    simp only [State.guardMatches, State.num, zone, params (.guardSelect z) rfl, params (.guardExpect z) rfl]
  refine ⟨action ▸ h.toGuardFit.congr (by rw [zone]) (by rw [zone]) running stands, ?_, ?_⟩ <;> rw [zone, matches']
  exacts [h.armed, h.tripped]

/-- In SETUP no guard reads its parameters (R123). -/
theorem State.GuardsOk.inSetup (h : s.GuardsOk) (off : s.running = false) (guard : ∀ z, (t.zone z).guard = (s.zone z).guard)
    (trips : ∀ z, (t.zone z).trips = (s.zone z).trips) (running : t.running = s.running)
    (stands : ∀ z, (t.demand (gIx z)).stands = (s.demand (gIx z)).stands) (shed : t.shed = s.shed) : t.GuardsOk := by
  have unarmed (z : Zone) : (t.zone z).guard = .unarmed := (guard z).trans ((h.guards z).unarmed.mpr off)
  have none {u : State} (quiet : ∀ z, (u.zone z).guard = .unarmed) : u.shedWanted = false :=
    Bool.eq_false_iff.mpr fun wanted => by
      obtain ⟨z, tripped, -⟩ := u.shedWanted_iff.mp wanted
      exact GuardState.noConfusion ((quiet z).symm.trans tripped)
  refine ⟨fun z => ⟨⟨trips z ▸ (h.guards z).trips, iff_of_true (unarmed z) (running.trans off), ?_⟩, ?_, ?_⟩, ?_⟩
  · refine iff_of_false (fun up => ?_) fun e => GuardState.noConfusion ((unarmed z).symm.trans e.1)
    have tripped := ((h.guards z).synthetic.mp (stands z ▸ up)).1
    exact GuardState.noConfusion ((unarmed z).symm.trans ((guard z).trans tripped))
  · exact fun e => GuardState.noConfusion ((unarmed z).symm.trans e)
  · exact fun e => GuardState.noConfusion ((unarmed z).symm.trans e)
  · rw [shed, h.shed, none unarmed, none fun z => (guard z).symm.trans (unarmed z)]

/-- SHED reads the action of a TRIPPED guard alone (R129). -/
theorem State.shedWanted_reread (guard : ∀ z, (t.zone z).guard = (s.zone z).guard)
    (action : ∀ z, (s.zone z).guard = .tripped → t.guardAction z = s.guardAction z) : t.shedWanted = s.shedWanted := by
  rw [Bool.eq_iff_iff, State.shedWanted_iff, State.shedWanted_iff]
  refine exists_congr fun z => ?_
  rw [guard]
  exact and_congr_right fun tripped => by rw [action z tripped]

/-! ## Measurements -/

theorem State.GuardsOk.withConditions_of (h : s.GuardsOk) (zones : t.zones = s.zones) (setup : t.setup = s.setup)
    (params : t.params = s.params) (demands : t.demands = s.demands) (shed : t.shed = s.shed) (z : Zone) (c : Conditions) :
    (t.withConditions z c).GuardsOk := by
  have same : t.GuardsOk := h.congr zones (State.running_congr (by rw [setup])) params (fun z => by rw [State.demand_congr demands]) shed
  exact same.withConditions z c

theorem State.GuardsOk.setTemp (h : s.GuardsOk) (ch : TempCh) (x : TempChannel) : (s.setTemp ch x).GuardsOk :=
  h.congr rfl rfl rfl (fun _ => rfl) rfl

theorem State.GuardsOk.convertChannel (h : s.GuardsOk) (ch : TempCh) (code : BitVec 12) : (convertChannel s ch code).GuardsOk := by
  unfold Machine.convertChannel State.refreshTemperature
  dsimp only
  split
  · exact (h.setTemp ch _).withConditions _ _
  · exact h.setTemp ch _

theorem State.GuardsOk.expireHold (h : s.GuardsOk) (ch : TempCh) : (expireHold s ch).GuardsOk := by
  unfold Machine.expireHold State.refreshBlind
  dsimp only
  split
  · split
    · exact (h.setTemp ch _).withConditions _ _
    · exact h.setTemp ch _
  · exact h

theorem State.GuardsOk.updateFlow (h : s.GuardsOk) (l : Loop) (c : FlowChannel) : (s.updateFlow l c).GuardsOk := by
  have written : (s.setFlow l c).GuardsOk := h.congr rfl rfl rfl (fun _ => rfl) rfl
  unfold State.updateFlow State.refreshStall
  split
  · exact written
  · exact written.withConditions _ _

theorem State.GuardsOk.channelsToInit (h : s.GuardsOk) : s.channelsToInit.GuardsOk := by
  have begun : State.GuardsOk { s with temps := mapTable TempChannel.toInit s.temps } := h.congr rfl rfl rfl (fun _ => rfl) rfl
  exact ((begun.withConditions .motor _).withConditions .battery _).withConditions .cabin _

theorem State.GuardsOk.judgeLoop (h : s.GuardsOk) (l : Loop) (settled : Bool) : (s.judgeLoop l settled).GuardsOk := by
  unfold State.judgeLoop
  dsimp only
  split <;> exact h.withConditions_of (by simp) (by simp) (by simp) (by simp) (by simp) _ _

/-! ## Writes, entry to RUN -/

/-- A live write, the guard of the written parameter's zone apart (R130). -/
theorem State.GuardsOk.writeInRun (h : s.GuardsOk) {q : Param} (zones : t.zones = s.zones) (running : t.running = s.running)
    (stands : ∀ z, (t.demand (gIx z)).stands = (s.demand (gIx z)).stands) (shed : t.shed = s.shed)
    (unread : ∀ z, q.guardZone ≠ some z → ∀ r, r.guardZone = some z → t.param r = s.param r) :
    (t.writeInRun q s.guardAction).GuardsOk := by
  have kept {z : Zone} (other : q.guardZone ≠ some z) : t.GuardOk z :=
    (h.guards z).reread (State.zone_congr zones z) running (stands z) (unread z other)
  have action {z : Zone} (other : q.guardZone ≠ some z) : t.guardAction z = s.guardAction z := by
    simp only [State.guardAction, State.num, unread z other (.guardAction z) rfl]
  unfold State.writeInRun
  split
  next z own =>
    have apart {y : Zone} (other : y ≠ z) : q.guardZone ≠ some y := by rw [own]; exact fun e => other (Option.some.inj e).symm
    have fit : t.GuardFit z (s.guardAction z) :=
      (h.guards z).toGuardFit.congr (by rw [State.zone_congr zones]) (by rw [State.zone_congr zones]) running (stands z)
    refine ⟨fun y => ?_, State.guardWritten_shed _ z _ fun still => ?_⟩
    · by_cases e : y = z
      · exact e ▸ fit.guardWritten
      · exact (kept (apart e)).congr (State.guardWritten_zone_of_ne _ _ e) (State.running_congr (by simp)) (by simp)
          (by rw [State.guardWritten_demand_of_ne _ _ _ (gIx_inj.not.mpr e)])
    · refine (shed.trans h.shed).trans (State.shedWanted_reread (fun y => by rw [State.zone_congr zones]) fun y tripped => ?_).symm
      by_cases e : y = z
      · exact absurd (by rw [State.zone_congr zones, ← e]; exact tripped) still
      · exact action (apart e)
  next none =>
    have apart (y : Zone) : q.guardZone ≠ some y := by simp [none]
    exact ⟨fun y => kept (apart y), (shed.trans h.shed).trans
      (State.shedWanted_reread (fun y => by rw [State.zone_congr zones]) fun y _ => action (apart y)).symm⟩

theorem State.GuardsOk.of_same (h : s.GuardsOk) (zones : t.zones = s.zones) (setup : t.setup.state = s.setup.state)
    (params : t.params = s.params) (demands : t.demands = s.demands) (shed : t.shed = s.shed) : t.GuardsOk :=
  h.congr zones (State.running_congr setup) params (fun z => by rw [State.demand_congr demands]) shed

theorem State.GuardsOk.writeInSetup (h : s.GuardsOk) (q : Param) : (s.writeInSetup q).GuardsOk := by
  have reached : (if q.isConvPt then s.channelsToInit else s).GuardsOk := by
    split
    · exact h.channelsToInit
    · exact h
  unfold State.writeInSetup
  dsimp only
  split <;> exact reached.of_same (by simp) (by simp [State.clearVotes_state]) (by simp) (by simp) (by simp)

theorem State.GuardsOk.takeWrite (h : s.GuardsOk) (p : Port) (q : Param) (j : Judged) : (s.takeWrite p q j).GuardsOk := by
  have zones : ((s.storeParam p q j.value j.second).lowerCompMin p q).zones = s.zones := by simp
  have running : ((s.storeParam p q j.value j.second).lowerCompMin p q).running = s.running := State.running_congr (by simp)
  have demands : ((s.storeParam p q j.value j.second).lowerCompMin p q).demands = s.demands := by simp
  have stands (z : Zone) := congrArg Demand.stands (State.demand_congr demands (gIx z))
  have shed : ((s.storeParam p q j.value j.second).lowerCompMin p q).shed = s.shed := by simp
  unfold State.takeWrite
  dsimp only
  split
  · exact h.writeInRun zones running stands shed fun z other r reads =>
      s.stored_param_of_ne p j (by rintro rfl; exact other reads) (by rintro rfl; cases reads)
  next off =>
    have quiet : ((s.storeParam p q j.value j.second).lowerCompMin p q).GuardsOk :=
      h.inSetup (by simpa using off) (fun z => by rw [State.zone_congr zones]) (fun z => by rw [State.zone_congr zones]) running stands shed
    exact quiet.writeInSetup q

theorem State.GuardsOk.setpCommand (h : s.GuardsOk) (p : Port) (id : Byte) (first second : Word) :
    (setpCommand p id first second s).state.GuardsOk := by
  rcases setpCommand_state p id first second s with e | ⟨q, j, -, -, -, e⟩ <;> rw [e]
  · exact h
  · exact h.takeWrite p q j

/-- One guard at RUN entry: it comes into agreement, and the others are left (R126). -/
theorem State.armGuard_ok {z : Zone} (run : s.running = true) (trips : (s.zone z).trips ≤ 255)
    (none : (s.demand (gIx z)).stands = false) : (s.armGuard z).GuardOk z := by
  refine State.GuardFit.evaluate ⟨?_, ?_, ?_⟩ <;> rw [State.zone_setZone, if_pos rfl]
  · exact trips
  · exact iff_of_false (fun e => GuardState.noConfusion e) fun off => Bool.false_ne_true (off.symm.trans run)
  · exact iff_of_false (fun up => Bool.false_ne_true (none.symm.trans up)) fun e => GuardState.noConfusion e.1

theorem State.armGuard_zone_of_ne (s : State) {y z : Zone} (other : y ≠ z) : (s.armGuard z).zone y = s.zone y := by
  rw [State.armGuard, State.evaluate_zone_of_ne _ _ other, State.zone_setZone, if_neg other]

theorem State.armGuard_demand_of_ne (s : State) {i : Fin 15} {z : Zone} (other : i ≠ gIx z) : (s.armGuard z).demand i = s.demand i := by
  rw [State.armGuard, State.evaluate_demand_of_ne _ _ other]
  rfl

theorem State.GuardOk.armGuard_of_ne {y z : Zone} (h : s.GuardOk y) (other : y ≠ z) : (s.armGuard z).GuardOk y :=
  h.congr (s.armGuard_zone_of_ne other) (State.running_congr (by simp)) (by simp)
    (by rw [s.armGuard_demand_of_ne (gIx_inj.not.mpr other)])

/-- A guard armed from UNARMED or ARMED keeps SHED up to date (R126, R129). -/
theorem State.armGuard_shed {z : Zone} (quiet : (s.zone z).guard ≠ .tripped) (h : s.shed = s.shedWanted) :
    (s.armGuard z).shed = (s.armGuard z).shedWanted := by
  refine State.evaluate_shed _ z (h.trans ?_)
  rw [Bool.eq_iff_iff, State.shedWanted_iff, State.shedWanted_iff]
  refine exists_congr fun y => and_congr_left fun _ => ?_
  rw [State.zone_setZone]
  split
  next own =>
    rw [own]
    exact iff_of_false quiet fun e => GuardState.noConfusion e
  next => exact Iff.rfl

/-- The three guards armed at RUN entry, none of them TRIPPED and no synthetic demand standing (R126). -/
theorem State.armGuards_ok (run : s.running = true) (quiet : ∀ z, (s.zone z).guard ≠ .tripped) (trips : ∀ z, (s.zone z).trips ≤ 255)
    (none : ∀ z, (s.demand (gIx z)).stands = false) (shed : s.shed = s.shedWanted) :
    (((s.armGuard .motor).armGuard .battery).armGuard .cabin).GuardsOk := by
  let m := s.armGuard .motor
  let b := m.armGuard .battery
  have running (u : State) (z : Zone) : (u.armGuard z).running = u.running := State.running_congr (by simp)
  have zoneM {y : Zone} (other : y ≠ .motor) : m.zone y = s.zone y := s.armGuard_zone_of_ne other
  have zoneB {y : Zone} (other : y ≠ .battery) : b.zone y = m.zone y := m.armGuard_zone_of_ne other
  have demandM {y : Zone} (other : y ≠ .motor) : m.demand (gIx y) = s.demand (gIx y) := s.armGuard_demand_of_ne (gIx_inj.not.mpr other)
  have demandB {y : Zone} (other : y ≠ .battery) : b.demand (gIx y) = m.demand (gIx y) := m.armGuard_demand_of_ne (gIx_inj.not.mpr other)
  have cabin : b.zone .cabin = s.zone .cabin := (zoneB (by decide)).trans (zoneM (by decide))
  have motorOk : m.GuardOk .motor := State.armGuard_ok run (trips _) (none _)
  have batteryOk : b.GuardOk .battery := State.armGuard_ok ((running s _).trans run) (by rw [zoneM (by decide)]; exact trips _)
    (by rw [demandM (by decide)]; exact none _)
  have cabinOk : (b.armGuard .cabin).GuardOk .cabin :=
    State.armGuard_ok ((running m _).trans ((running s _).trans run)) (by rw [cabin]; exact trips _)
      (by rw [demandB (by decide), demandM (by decide)]; exact none _)
  have shedM : m.shed = m.shedWanted := State.armGuard_shed (quiet _) shed
  have shedB : b.shed = b.shedWanted := State.armGuard_shed (by rw [zoneM (by decide)]; exact quiet _) shedM
  refine ⟨fun z => ?_, State.armGuard_shed (by rw [cabin]; exact quiet _) shedB⟩
  cases z
  case motor => exact (motorOk.armGuard_of_ne (by decide)).armGuard_of_ne (by decide)
  case battery => exact batteryOk.armGuard_of_ne (by decide)
  case cabin => exact cabinOk

/-- Entry to RUN arms and evaluates every guard (R126). -/
theorem State.GuardsOk.enterRun (h : s.GuardsOk) (off : s.running = false) : s.enterRun.GuardsOk := by
  let entering := s.enteringRun.allocatorRunEntry
  have zones : entering.zones = s.zones := by simp [entering, State.enteringRun]
  have demand (i : Fin 15) : entering.demand i = s.demand i := State.demand_congr (by simp [entering, State.enteringRun]) i
  have unarmed (z : Zone) : (s.zone z).guard = .unarmed := (h.guards z).unarmed.mpr off
  have run : entering.running = true := by simp [entering, State.enteringRun, State.running]
  have armed : s.guardsArmed.GuardsOk := by
    refine State.armGuards_ok run (fun z => ?_) (fun z => ?_) (fun z => ?_) ?_
    · rw [State.zone_congr zones, unarmed]
      exact GuardState.noConfusion
    · rw [State.zone_congr zones]
      exact (h.guards z).trips
    · rw [demand]
      refine Bool.eq_false_iff.mpr fun stands => ?_
      exact GuardState.noConfusion ((unarmed z).symm.trans ((h.guards z).synthetic.mp stands).1)
    · rw [State.shedWanted_congr (s := s) (fun z => by rw [State.zone_congr zones]) (by simp [State.enteringRun]), ← h.shed]
      simp [State.enteringRun]
  rw [State.enterRun_eq]
  exact armed.congr (by simp) (State.running_congr (by simp)) (by simp) (fun z => by rw [State.demand_congr (s := s.guardsArmed) (by simp)])
    (by simp)

/-! ## The zones -/

/-- An event that leaves the zones, what they read and each standing slot G. -/
theorem State.ZonesOk.of_stands (h : s.ZonesOk) (zones : t.zones = s.zones) (temps : t.temps = s.temps) (flows : t.flows = s.flows)
    (delivered : t.delivered = s.delivered) (params : t.params = s.params) (running : t.running = s.running) (shed : t.shed = s.shed)
    (stands : ∀ z, (t.demand (gIx z)).stands = (s.demand (gIx z)).stands) : t.ZonesOk := by
  obtain ⟨conds, records, guards⟩ := State.zonesOk_iff.mp h
  refine State.zonesOk_iff.mpr ⟨conds.congr (fun z => by rw [State.zone_congr zones]) (fun z => State.usable_congr temps _)
    (fun l => by rw [State.flow_congr flows]) (fun q => by rw [State.param_congr params]; exact id) delivered,
    records.congr delivered, guards.congr zones running params stands shed⟩

theorem State.ZonesOk.runCycle (h : s.ZonesOk) : s.runCycle.ZonesOk := by
  have judged : s.atJudgement.ZonesOk := by
    refine h.of_stands (by simp [State.atJudgement_eq]) (by simp [State.atJudgement_eq]) (by simp [State.atJudgement_eq])
      (by simp [State.atJudgement_eq]) (by simp [State.atJudgement_eq]) (State.running_congr (by simp [State.atJudgement_eq]))
      (by simp [State.atJudgement_eq]) fun z => ?_
    rw [State.demand_congr (s := s.atPublication) (by simp [State.atJudgement_eq]), State.atPublication_stands]
  obtain ⟨conds, records, guards⟩ := State.zonesOk_iff.mp judged
  rw [State.runCycle_eq_judgeLoops]
  exact State.zonesOk_iff.mpr ⟨(conds.judgeLoop .motor _).judgeLoop .battery _, (records.judgeLoop .motor _).judgeLoop .battery _,
    (guards.judgeLoop .motor _).judgeLoop .battery _⟩

end

end Sys2Proof.Machine
end

section
/-!
PROOFS. Every step keeps conditions, guards, synthetic demands and SHED in agreement.
-/

namespace Sys2Proof.Machine

section
variable {s t : State}

/-! ## Conditions -/

theorem State.guardWritten_cond (s : State) (z : Zone) (old : GuardAction) (y : Zone) :
    ((s.guardWritten z old).zone y).cond = (s.zone y).cond := by
  unfold State.guardWritten
  repeat' split
  · rfl
  · rfl
  · exact s.trip_cond z y
  · exact s.returnToMatch_cond z y old
  · exact s.trip_cond z y
  · rw [State.zone_congr (s := s.trip z) (by simp)]
    exact s.trip_cond z y

theorem State.CondsOk.of_cond (h : s.CondsOk) (cond : ∀ z, (t.zone z).cond = (s.zone z).cond) (temps : t.temps = s.temps)
    (flows : t.flows = s.flows) (params : t.params = s.params) (delivered : t.delivered = s.delivered) : t.CondsOk :=
  fun z => cond z ▸ (h z).congr_parts temps flows params delivered

theorem State.CondsOk.of_same (h : s.CondsOk) (zones : t.zones = s.zones) (temps : t.temps = s.temps)
    (flows : t.flows = s.flows) (params : t.params = s.params) (delivered : t.delivered = s.delivered) : t.CondsOk :=
  h.of_cond (fun z => by rw [State.zone_congr zones]) temps flows params delivered

theorem State.CondsOk.armGuard (h : s.CondsOk) (z : Zone) : (s.armGuard z).CondsOk :=
  h.of_cond (fun y => by rw [State.armGuard, State.evaluate_cond, State.setZone_cond (by rfl)]) (by simp) (by simp) (by simp) (by simp)

theorem State.storeParam_written (s : State) (p : Port) (q r : Param) (j : Judged)
    (clear : (((s.storeParam p q j.value j.second).lowerCompMin p q).param r).written = false) : (s.param r).written = false := by
  rw [State.lowerCompMin_param, State.storeParam_param] at clear
  split at clear
  · cases clear
  split at clear
  · cases clear
  · exact clear

theorem State.CondsOk.takeWrite (h : s.CondsOk) (p : Port) (q : Param) (j : Judged) : (s.takeWrite p q j).CondsOk := by
  have stored : ((s.storeParam p q j.value j.second).lowerCompMin p q).CondsOk :=
    h.congr (fun z => congrArg _ (State.zone_congr (by simp) z)) (fun z => State.usable_congr (by simp) _)
      (fun l => congrArg _ (State.flow_congr (by simp) l)) (fun r => s.storeParam_written p q r j) (by simp)
  unfold State.takeWrite State.writeInRun State.writeInSetup
  dsimp only
  split
  · split
    · exact stored.of_cond (fun y => State.guardWritten_cond ..) (by simp) (by simp) (by simp) (by simp)
    · exact stored
  generalize (s.storeParam p q j.value j.second).lowerCompMin p q = u at stored
  have reached : (if q.isConvPt then u.channelsToInit else u).CondsOk := by
    split
    · exact stored.channelsToInit
    · exact stored
  generalize (if q.isConvPt then u.channelsToInit else u) = v at reached
  have cleared (w : State) (ok : w.CondsOk) : w.clearVotes.CondsOk :=
    ok.of_same (by simp) (by simp) (by simp) (by simp) (by simp)
  split
  next l _ =>
    refine cleared _ (reached.congr (fun _ => rfl) (fun _ => rfl) (fun k => ?_) (fun _ => id) rfl)
    rw [State.clearAverage, State.flow_setFlow]
    split
    next own => rw [own]
    next => rfl
  next => exact cleared _ reached

/-! ## The zones -/

section
variable (h : s.ZonesOk)
include h

theorem State.ZonesOk.setpCommand (p : Port) (id : Byte) (first second : Word) : (setpCommand p id first second s).state.ZonesOk := by
  rcases setpCommand_state p id first second s with e | ⟨q, j, -, -, -, e⟩ <;> rw [e]
  · exact h
  · obtain ⟨conds, records, guards⟩ := State.zonesOk_iff.mp h
    exact State.zonesOk_iff.mpr ⟨conds.takeWrite p q j, records.congr (by simp), guards.takeWrite p q j⟩

theorem State.ZonesOk.enterRun (off : s.running = false) : s.enterRun.ZonesOk := by
  obtain ⟨conds, records, guards⟩ := State.zonesOk_iff.mp h
  have entering : s.enteringRun.allocatorRunEntry.CondsOk :=
    conds.of_same (by simp [State.enteringRun]) (by simp [State.enteringRun])
      (by simp [State.enteringRun]) (by simp [State.enteringRun]) (by simp [State.enteringRun])
  have armed : s.guardsArmed.CondsOk := ((entering.armGuard .motor).armGuard .battery).armGuard .cabin
  have ran : s.enterRun.CondsOk := by
    rw [State.enterRun_eq]
    exact armed.of_same (by simp) (by simp) (by simp) (by simp) (by simp)
  exact State.zonesOk_iff.mpr ⟨ran, records.congr (by simp), guards.enterRun off⟩

theorem State.ZonesOk.startCommand (p : Port) : (startCommand p s).state.ZonesOk := by
  rcases startCommand_state p s with e | ⟨setup, -, e⟩ <;> rw [e]
  · exact h
  have voted : (s.setVote p true).ZonesOk := h.of_stands rfl rfl rfl rfl rfl rfl rfl fun _ => rfl
  unfold State.addVote State.validate
  dsimp only
  split
  · split
    · exact voted.enterRun setup
    · refine voted.of_stands (by simp) (by simp) (by simp) (by simp) (by simp) (State.running_congr (by simp [State.failValidation])) (by simp)
        fun z => congrArg _ (State.demand_congr (by simp) _)
  · exact voted

/-- An event that leaves the zones, what they read and the Demand Table. -/
theorem State.ZonesOk.of_same (zones : t.zones = s.zones) (temps : t.temps = s.temps) (flows : t.flows = s.flows)
    (delivered : t.delivered = s.delivered) (params : t.params = s.params) (setup : t.setup.state = s.setup.state)
    (shed : t.shed = s.shed) (demands : t.demands = s.demands) : t.ZonesOk :=
  h.of_stands zones temps flows delivered params (State.running_congr setup) shed fun z => by rw [State.demand_congr demands]

/-- An event that reaches posted demands alone (R8, R11, R12, R14). -/
theorem State.ZonesOk.of_posted (zones : t.zones = s.zones) (temps : t.temps = s.temps) (flows : t.flows = s.flows)
    (delivered : t.delivered = s.delivered) (params : t.params = s.params) (setup : t.setup.state = s.setup.state)
    (shed : t.shed = s.shed) (own : ∀ z, t.demand (gIx z) = s.demand (gIx z)) : t.ZonesOk :=
  h.of_stands zones temps flows delivered params (State.running_congr setup) shed fun z => by rw [own]

theorem State.ZonesOk.convertChannel (ch : TempCh) (code : BitVec 12) : (convertChannel s ch code).ZonesOk := by
  obtain ⟨conds, records, guards⟩ := State.zonesOk_iff.mp h
  exact State.zonesOk_iff.mpr ⟨conds.convertChannel ch code, records.congr (by simp), guards.convertChannel ch code⟩

theorem State.ZonesOk.expireHold (ch : TempCh) : (expireHold s ch).ZonesOk := by
  obtain ⟨conds, records, guards⟩ := State.zonesOk_iff.mp h
  exact State.zonesOk_iff.mpr ⟨conds.expireHold ch, records.congr (by simp), guards.expireHold ch⟩

theorem State.ZonesOk.updateFlow (l : Loop) (c : FlowChannel) : (s.updateFlow l c).ZonesOk := by
  obtain ⟨conds, records, guards⟩ := State.zonesOk_iff.mp h
  exact State.zonesOk_iff.mpr ⟨conds.updateFlow l c, records.congr (by simp), guards.updateFlow l c⟩

theorem State.ZonesOk.tick : s.tick.ZonesOk := by
  obtain ⟨conds, records, guards⟩ := State.zonesOk_iff.mp h
  have temp (ch : TempCh) : (s.tick.temp ch).tag = (s.temp ch).tag := by
    rw [show s.tick.temp ch = (s.temp ch).tick from get_mapTable ..]
    rfl
  have flow (l : Loop) : (s.tick.flow l).tag = (s.flow l).tag := by
    rw [show s.tick.flow l = (s.flow l).tick from get_mapTable ..]
    rfl
  have stands (i : Fin 15) : (s.tick.demand i).stands = (s.demand i).stands := by
    rw [show s.tick.demand i = (s.demand i).tick from get_mapTable ..]
    rfl
  exact State.zonesOk_iff.mpr ⟨conds.congr (fun _ => rfl) (fun z => congrArg TempTag.usable (temp (zoneTemp z))) flow (fun _ => id) rfl,
    records.congr rfl, guards.congr rfl rfl rfl (fun z => stands (gIx z)) rfl⟩

end

theorem State.resetWith_zonesOk (s : State) (r : ResetRecord) : (s.resetWith r).ZonesOk := by
  have fresh : (State.afterReset r s.hvReady s.valveAt #v[(s.port .M).selected, (s.port .B).selected, (s.port .C).selected]
      s.pending s.timeBase).ZonesOk := by
    generalize hs : State.afterReset .. = u
    have zone (z : Zone) : u.zone z = ZoneMonitor.initial (z != .cabin) := by
      subst hs
      cases z <;> rfl
    have tag (ch : TempCh) : (u.temp ch).tag = .init := by
      subst hs
      exact congrArg TempChannel.tag (get_replicate ..)
    have flow (l : Loop) : (u.flow l).tag = .stall := by
      subst hs
      exact congrArg FlowChannel.tag (get_replicate ..)
    have record (l : Loop) : u.record l = DeliveredRecord.initial := by
      subst hs
      exact get_replicate ..
    have demand (i : Fin 15) : u.demand i = Demand.freeSlot := by
      subst hs
      exact get_replicate ..
    have off : u.running = false := by
      subst hs
      rfl
    have shed : u.shed = false := by
      subst hs
      rfl
    refine State.zonesOk_iff.mpr ⟨fun z => ?_, fun l => ?_, fun z => ⟨⟨?_, ?_, ?_⟩, ?_, ?_⟩, ?_⟩
    · rw [zone]
      refine ⟨by rw [State.usable, tag]; rfl, fun l own => ?_, ?_, fun _ => rfl, fun _ => rfl, fun _ _ set => Bool.noConfusion set⟩
      · rw [flow, ← own]
        cases l <;> rfl
      · rintro rfl
        exact ⟨rfl, rfl⟩
    · rw [record]
      exact ⟨Nat.zero_le _, by decide, fun _ => ⟨rfl, rfl⟩⟩
    · rw [zone]
      exact Nat.zero_le _
    · rw [zone, off]
      exact iff_of_true rfl rfl
    · rw [demand, zone]
      exact iff_of_false Bool.false_ne_true fun e => GuardState.noConfusion e.1
    · rw [zone]
      exact GuardState.noConfusion
    · rw [zone]
      exact GuardState.noConfusion
    · rw [shed, eq_comm, Bool.eq_false_iff, ne_eq, State.shedWanted_iff]
      rintro ⟨z, tripped, -⟩
      rw [zone] at tripped
      exact GuardState.noConfusion tripped
  exact fresh.of_same (by simp [State.resetWith]) (by simp [State.resetWith]) (by simp [State.resetWith]) (by simp [State.resetWith])
    (by simp [State.resetWith]) (by simp [State.resetWith]) (by simp [State.resetWith]) (by simp [State.resetWith])

end

theorem foldl_freeSlot_demand_gIx (z : Zone) (ks : List (Fin 4)) (y : Zone) (s : State) :
    (ks.foldl (fun t k => t.freeSlot (postedIx z k)) s).demand (gIx y) = s.demand (gIx y) :=
  foldl_keeps (fun t : State => t.demand (gIx y)) _ (fun t k => by
    rw [State.freeSlot_demand, if_neg (postedIx_ne_gIx z y k).symm]) ks s

theorem foldl_renewSlot_demand_gIx (z : Zone) (ks : List (Fin 4)) (y : Zone) (s : State) :
    (ks.foldl (fun t k => t.renewSlot (postedIx z k)) s).demand (gIx y) = s.demand (gIx y) :=
  foldl_keeps (fun t : State => t.demand (gIx y)) _ (fun t k => by
    rw [State.renewSlot, State.demand_setDemand, if_neg (postedIx_ne_gIx z y k).symm]) ks s

/-- What every frame, command, event, reset and tick keeps of the zones. -/
theorem zonesOk_kept : Kept State.ZonesOk where
  pending _ h := h.of_same rfl rfl rfl rfl rfl rfl rfl rfl
  tick h := h.tick
  reset r _ := State.resetWith_zonesOk _ r
  shiftOut _ _ h := h.of_same (by simp) (by simp) (by simp) (by simp) (by simp) (by simp) (by simp) (by simp)
  stage _ _ h := h.of_same (by simp) (by simp) (by simp) (by simp) (by simp) (by simp) (by simp) (by simp)
  arrives _ _ h := h.of_same (by simp) (by simp) (by simp) (by simp) (by simp) (by simp) (by simp) (by simp)
  post p slot sense tier weight asked lease _ h := by
    rcases postCommand_state p slot sense tier weight asked lease _ with e | ⟨k, x, t, keep, -, -, -, -, -, e⟩ <;> rw [e]
    · exact h
    · refine h.of_posted (by simp) (by simp) (by simp) (by simp) (by simp) (by simp) (by simp) fun z => ?_
      rw [State.writeDemand_demand, if_neg (postedIx_ne_gIx _ z k).symm]
  renew p slots h := by
    unfold renewCommand slotAnswer
    split
    · exact h
    split
    · exact h
    · exact h.of_posted (by simp) (by simp) (by simp) (by simp) (by simp) (by simp) (by simp) fun z => foldl_renewSlot_demand_gIx ..
  drop p slots h := by
    unfold dropCommand slotAnswer
    split
    · exact h
    split
    · exact h
    · exact h.of_posted (by simp) (by simp) (by simp) (by simp) (by simp) (by simp) (by simp) fun z => foldl_freeSlot_demand_gIx ..
  allow _ _ _ h := h.of_same (by simp) (by simp) (by simp) (by simp) (by simp) (by simp) (by simp) (by simp)
  vote _ _ _ h := h.of_same (by simp) (by simp) (by simp) (by simp) (by simp) (by simp) (by simp) (by simp)
  setp p id a b h := h.setpCommand p id a b
  start p h := h.startCommand p
  unstart p h := h.of_same (by simp) (by simp) (by simp) (by simp) (by simp) (unstartCommand_setupState p _) (by simp) (by simp)
  force _ _ h := h.of_same (by simp [forceCommand]) (by simp [forceCommand]) (by simp [forceCommand]) (by simp [forceCommand]) (by simp [forceCommand]) (by simp [forceCommand]) (by simp [forceCommand]) (by simp [forceCommand])
  forceRelease _ h := h.of_same (by simp [forceReleaseCommand]) (by simp [forceReleaseCommand]) (by simp [forceReleaseCommand]) (by simp [forceReleaseCommand]) (by simp [forceReleaseCommand]) (by simp [forceReleaseCommand]) (by simp [forceReleaseCommand]) (by simp [forceReleaseCommand])
  clearvalve h := h.of_same (by simp) (by simp) (by simp) (by simp) (by simp) (by simp) (by simp) (by simp)
  next _ h := h.of_same (by simp) (by simp) (by simp) (by simp) (by simp) (by simp) (by simp) (by simp)
  ack _ _ h := h.of_same (by simp) (by simp) (by simp) (by simp) (by simp) (by simp) (by simp) (by simp)
  enable _ _ h := h.of_same (by simp) (by simp) (by simp) (by simp) (by simp) (by simp) (by simp) (by simp)
  leaseExpiry {s} z k h := by
    unfold expireLease
    split
    · refine h.of_posted (by simp) (by simp) (by simp) (by simp) (by simp) (by simp) (by simp) fun y => ?_
      rw [State.demand_congr (s := s.freeSlot (postedIx z k)) (by simp), State.freeSlot_demand, if_neg (postedIx_ne_gIx z y k).symm]
    · exact h
  cycleExpiry h := by
    unfold expireCycle
    split
    · exact h.runCycle
    · exact h
  allowanceLeaseExpiry h := h.of_same (by simp) (by simp) (by simp) (by simp) (by simp) (by simp) (by simp) (by simp)
  dwellExpiry h := h.of_same (by simp) (by simp) (by simp) (by simp) (by simp) (by simp) (by simp) (by simp)
  travelTimeout h := h.of_same (by simp) (by simp) (by simp) (by simp) (by simp) (by simp) (by simp) (by simp)
  retryAttempt h := h.of_same (by simp) (by simp) (by simp) (by simp) (by simp) (by simp) (by simp) (by simp)
  valveAtAsserted h := h.of_same (by simp) (by simp) (by simp) (by simp) (by simp) (by simp) (by simp) (by simp)
  valveAtDeasserted h := h.of_same (by simp) (by simp) (by simp) (by simp) (by simp) (by simp) (by simp) (by simp)
  hvReadyRise h := h.of_same (by simp) (by simp) (by simp) (by simp) (by simp) (by simp) (by simp) (by simp)
  hvReadyFall h := h.of_same (by simp) (by simp) (by simp) (by simp) (by simp) (by simp) (by simp) (by simp)
  primeTimerExpiry h := h.of_same (by simp) (by simp) (by simp) (by simp) (by simp) (by simp) (by simp) (by simp)
  dormantTimerExpiry h := h.of_same (by simp) (by simp) (by simp) (by simp) (by simp) (by simp) (by simp) (by simp)
  linkTimerExpiry _ h := h.of_same (by simp) (by simp) (by simp) (by simp) (by simp) (by simp) (by simp) (by simp)
  conversion ch code h := h.convertChannel ch code
  holdExpiry ch h := h.expireHold ch
  flowEdge l h := h.updateFlow l _
  stallExpiry l h := by
    unfold expireStall
    split
    · exact h.updateFlow l _
    · exact h
  periodBoundary _ h := h.of_same (by simp) (by simp) (by simp) (by simp) (by simp) (by simp) (by simp) (by simp)

/-- Settles O57. -/
theorem stepsKeepGuardsAndConditionsInAgreement : Obligations.StepsKeepGuardsAndConditionsInAgreement :=
  fun _ _ run h => zonesOk_kept.step run h

end Sys2Proof.Machine
end

section
/-!
PROOFS. The Actuator Drive: maps and their bounds, targets, slews, and what a publication makes of each channel (R136 to R143).
-/

namespace Sys2Proof.Machine

/-! ## Maps -/

theorem mapBetween_single (src x y : Nat) : mapBetween src [(x, y)] = y := rfl

theorem mapBetween_of_le {src x0 y0 x1 y1 : Nat} (rest : List (Nat × Nat)) (h : x1 ≤ src) :
    mapBetween src ((x0, y0) :: (x1, y1) :: rest) = mapBetween src ((x1, y1) :: rest) := by
  rw [mapBetween, if_pos h]

theorem mapBetween_of_lt {src x0 y0 x1 y1 : Nat} (rest : List (Nat × Nat)) (h : src < x1) :
    mapBetween src ((x0, y0) :: (x1, y1) :: rest) =
      ((y0 : Int) + (((y1 : Int) - y0) * ((src : Int) - x0)).tdiv ((x1 : Int) - x0)).toNat := by
  rw [mapBetween, if_neg (Nat.not_le.mpr h)]

/-- The line between two points stays between their ordinates (R137). -/
theorem line_toNat_bounds {src x0 x1 : Nat} (y0 y1 : Nat) (left : x0 ≤ src) (right : src ≤ x1) :
    min y0 y1 ≤ ((y0 : Int) + (((y1 : Int) - y0) * ((src : Int) - x0)).tdiv ((x1 : Int) - x0)).toNat ∧
      ((y0 : Int) + (((y1 : Int) - y0) * ((src : Int) - x0)).tdiv ((x1 : Int) - x0)).toNat ≤ max y0 y1 := by
  obtain ⟨low, high⟩ := line_bounds (y0 : Int) (y1 : Int) (Int.ofNat_le.mpr left) (Int.ofNat_le.mpr right)
  generalize ((y0 : Int) + (((y1 : Int) - y0) * ((src : Int) - x0)).tdiv ((x1 : Int) - x0)) = line at low high
  omega

/-- A map never exceeds the greatest of its ordinates, whatever its abscissas. -/
theorem mapBetween_le {src bound : Nat} : ∀ {pts : List (Nat × Nat)}, (∀ q ∈ pts, q.2 ≤ bound) → (pts.headD (0, 0)).1 ≤ src →
    mapBetween src pts ≤ bound
  | [], _, _ => Nat.zero_le _
  | [(_, y)], h, _ => h (_, y) List.mem_cons_self
  | (x0, y0) :: (x1, y1) :: rest, h, first => by
    by_cases past : x1 ≤ src
    · rw [mapBetween_of_le rest past]
      exact mapBetween_le (fun q mem => h q (List.mem_cons_of_mem _ mem)) past
    · rw [mapBetween_of_lt rest (Nat.lt_of_not_le past)]
      have high := (line_toNat_bounds y0 y1 first (Nat.le_of_not_le past)).2
      have y0_le : y0 ≤ bound := h (x0, y0) List.mem_cons_self
      have y1_le : y1 ≤ bound := h (x1, y1) (List.mem_cons_of_mem _ List.mem_cons_self)
      exact high.trans (Nat.max_le.mpr ⟨y0_le, y1_le⟩)

theorem mapDuty_le {src bound : Nat} {pts : List (Nat × Nat)} (h : ∀ q ∈ pts, q.2 ≤ bound) : mapDuty pts src ≤ bound := by
  unfold mapDuty
  split
  · exact Nat.zero_le _
  split
  · cases pts with
    | nil => exact Nat.zero_le _
    | cons q rest => exact h q List.mem_cons_self
  next past => exact mapBetween_le h (Nat.le_of_not_le past)

/-! ## Targets -/

theorem heaterDuty_le {grant ptcMax : Nat} (h : grant ≤ ptcMax) : heaterDuty grant ptcMax ≤ 1000 := by
  unfold heaterDuty
  split
  · exact Nat.zero_le _
  · exact Nat.div_le_of_le_mul (by rw [Nat.mul_comm]; exact Nat.mul_le_mul_right _ h)

/-- Every point of a map of parameters in range stays within a full duty (R137, R149). -/
theorem State.ParamsOk.mapPoints_le {s : State} (h : s.ParamsOk) {point : Fin 4 → Param}
    (row : ∀ i, (point i).row = ⟨.mapPair, none, false⟩) : ∀ q ∈ s.mapPoints point, q.2 ≤ 1000 := by
  intro q mem
  obtain ⟨i, -, rfl⟩ := List.mem_map.mp mem
  dsimp only
  cases written : (s.param (point i)).written
  · rw [h.unwritten _ written]
    exact Nat.zero_le _
  · have admitted := h.written _ written
    rw [row] at admitted
    obtain ⟨-, -, -, most⟩ := admitted
    omega

/-- Every target of a grant set whose heaters stay within PTC_MAX stays within a full duty (R133, R136). -/
theorem State.ParamsOk.targetOf_le {s : State} (h : s.ParamsOk) {g : GrantSet} (cabin : g.heatCabin ≤ s.num .ptcMax)
    (battery : g.heatBattery ≤ s.num .ptcMax) (c : PwmCh) : s.targetOf g c ≤ 1000 := by
  have charge := (h.num_range (q := .pumpChargeMin) rfl rfl).2
  have floor (l : Loop) : s.pumpFloor l g.regime ≤ 1000 := by
    have least := (h.num_range (q := .pumpMin l) rfl rfl).2
    unfold State.pumpFloor
    split
    · exact least
    · exact (h.num_range (q := .pumpMin .motor) rfl rfl).2
    · exact (h.num_range (q := .pumpMin .motor) rfl rfl).2
    · exact Nat.max_le.mpr ⟨(h.num_range (q := .pumpMin .battery) rfl rfl).2, charge⟩
    · exact Nat.max_le.mpr ⟨(h.num_range (q := .pumpMin .battery) rfl rfl).2, charge⟩
    all_goals exact Nat.zero_le _
  have fan := (h.num_range (q := .fanMin) rfl rfl).2
  cases c
  case pumpM => exact Nat.max_le.mpr ⟨floor .motor, mapDuty_le (h.mapPoints_le fun _ => rfl)⟩
  case pumpB => exact Nat.max_le.mpr ⟨floor .battery, mapDuty_le (h.mapPoints_le fun _ => rfl)⟩
  case fan =>
    dsimp only [State.targetOf]
    split
    · exact fan
    · exact Nat.max_le.mpr ⟨fan, mapDuty_le (h.mapPoints_le fun _ => rfl)⟩
  case comp => exact mapDuty_le (h.mapPoints_le fun _ => rfl)
  case heatC => exact heaterDuty_le cabin
  case heatB => exact heaterDuty_le battery

theorem State.targetOf_congr {s t : State} (params : t.params = s.params) (g : GrantSet) (c : PwmCh) : t.targetOf g c = s.targetOf g c := by
  have points (point : Fin 4 → Param) : t.mapPoints point = s.mapPoints point := by
    simp only [State.mapPoints, State.param_congr params]
  have floor (l : Loop) : t.pumpFloor l g.regime = s.pumpFloor l g.regime := by
    unfold State.pumpFloor
    simp only [State.num_congr params]
  cases c <;> simp only [State.targetOf, points, floor, State.num_congr params]

/-- The heaters of a cycle's grant set stay within PTC_MAX (R41). -/
theorem State.grantSet_heaters_le (s : State) : s.grantSet.heatCabin + s.grantSet.heatBattery ≤ s.num .ptcMax := by
  rw [s.grantSet_heaters]
  exact s.ptcTotal_le.trans (Nat.min_le_left ..)

/-! ## A publication -/

theorem slewed_le {setpoint target bound : Nat} (slew : Nat) (h : setpoint ≤ bound) (g : target ≤ bound) :
    slewed setpoint target slew ≤ bound := by
  unfold slewed
  split_ifs <;> omega

theorem foldl_publishOut_out (g : GrantSet) {cs : List PwmCh} (c : PwmCh) : ∀ {s : State}, cs.Nodup →
    (cs.foldl (fun t c => t.publishOut g c) s).out c =
      if c ∈ cs then (s.out c).publish (s.targetOf g c) (s.num (slewParam c)) g.regime else s.out c := by
  induction cs with
  | nil => exact fun _ => rfl
  | cons d cs ih =>
    intro s once
    obtain ⟨absent, once⟩ := List.nodup_cons.mp once
    have params : (s.publishOut g d).params = s.params := rfl
    rw [List.foldl_cons, ih once, State.targetOf_congr params, State.num_congr params, State.publishOut_out]
    by_cases own : c = d
    · subst own
      simp [absent]
    · simp [own]

/-- A publication moves every channel from where it stood (R136, R139). -/
theorem State.publishOutputs_out (s : State) (g : GrantSet) (c : PwmCh) :
    (s.publishOutputs g).out c = (s.out c).publish (s.targetOf g c) (s.num (slewParam c)) g.regime := by
  have listed : c ∈ allPwm := by cases c <;> decide
  exact (foldl_publishOut_out g c (by decide)).trans (if_pos listed)

end Sys2Proof.Machine
end

section
/-!
PROOFS. Every step keeps the duties in range, no force in RUN, and everything at 0 in DORMANT (R133 to R146).
-/

namespace Sys2Proof.Machine

/-! ## One channel -/

/-- Every duty of a channel lies within 0 to 1000 per mille (R133). -/
structure PwmChannel.InRange (c : PwmChannel) : Prop where
  target : c.target ≤ 1000
  setpoint : c.setpoint ≤ 1000
  applied : c.applied ≤ 1000
  pending : ∀ d, c.pendingDuty = some d → d ≤ 1000
  force : ∀ d, c.force = some d → d ≤ 1000

section
variable {c : PwmChannel} (h : c.InRange)
include h

theorem PwmChannel.InRange.publish {target : Nat} (most : target ≤ 1000) (slew : Nat) (r : Regime) :
    (c.publish target slew r).InRange := by
  unfold PwmChannel.publish
  split
  · exact ⟨most, h.setpoint, h.applied, h.pending, h.force⟩
  · refine ⟨most, slewed_le slew h.setpoint most, h.applied, fun d pending => ?_, h.force⟩
    dsimp only at pending
    split at pending
    · exact h.pending d pending
    · exact Option.some.inj pending ▸ slewed_le slew h.setpoint most

theorem PwmChannel.InRange.boundary (period : Nat) : (c.boundary period).InRange := by
  refine ⟨h.target, h.setpoint, ?_, nofun, h.force⟩
  dsimp only [PwmChannel.boundary]
  cases pending : c.pendingDuty with
  | none => exact h.applied
  | some d => exact h.pending d pending

theorem PwmChannel.InRange.forced {duty : Nat} (most : duty ≤ 1000) : (c.forced duty).InRange :=
  ⟨h.target, h.setpoint, h.applied, fun _ e => Option.some.inj e ▸ most, fun _ e => Option.some.inj e ▸ most⟩

theorem PwmChannel.InRange.released : c.released.InRange :=
  ⟨h.target, h.setpoint, h.applied, fun _ e => Option.some.inj e ▸ h.setpoint, nofun⟩

theorem PwmChannel.InRange.unforced : c.unforced.InRange := by
  unfold PwmChannel.unforced
  split
  · exact h.released
  · exact h

theorem PwmChannel.InRange.toZero : c.toZero.InRange := ⟨h.target, Nat.zero_le _, Nat.zero_le _, nofun, h.force⟩

end

theorem PwmChannel.unforced_force (c : PwmChannel) : c.unforced.force = none := by
  unfold PwmChannel.unforced
  split
  · rfl
  next none => simpa using none

theorem PwmChannel.publish_force (c : PwmChannel) (target slew : Nat) (r : Regime) : (c.publish target slew r).force = c.force := by
  unfold PwmChannel.publish
  split <;> rfl

/-- In DORMANT a publication keeps everything of a channel but its target (R143). -/
theorem PwmChannel.publish_dormant (c : PwmChannel) (target slew : Nat) : c.publish target slew .dormant = { c with target := target } := rfl

/-! ## The outputs -/

section
variable {s t : State}

theorem State.OutputsOk.inRange (h : s.OutputsOk) (c : PwmCh) : (s.out c).InRange := by
  obtain ⟨target, setpoint, applied, pending, force⟩ := h.range c
  exact ⟨target, setpoint, applied, pending, force⟩

theorem State.OutputsOk.of_inRange (inRange : ∀ c, (s.out c).InRange) (noForce : s.running = true → ∀ c, (s.out c).force = none)
    (dormant : s.regime.regime = .dormant → ∀ c, (s.out c).setpoint = 0 ∧ (s.out c).applied = 0 ∧ (s.out c).pendingDuty = none)
    (limp : s.running = false → ∀ c, (s.out c).setpoint = limpDuty c ∧ (s.out c).target = 0) : s.OutputsOk :=
  ⟨fun c => ⟨(inRange c).target, (inRange c).setpoint, (inRange c).applied, (inRange c).pending, (inRange c).force⟩, noForce, dormant, limp⟩

/-- A change to other blocks that does not begin DORMANT. -/
theorem State.OutputsOk.of_pwm (h : s.OutputsOk) (pwm : t.pwm = s.pwm) (setup : t.setup.state = s.setup.state)
    (dormant : t.regime.regime = .dormant → s.regime.regime = .dormant) : t.OutputsOk := by
  have out := State.out_congr pwm
  have running : t.running = s.running := State.running_congr setup
  constructor <;> simp only [out, running]
  exacts [h.range, h.noForceInRun, fun asleep => h.dormant (dormant asleep), h.limp]

/-! ## A cycle -/

theorem State.grantSet_regime (s : State) : s.grantSet.regime = s.regime.regime := rfl

/-- What a cycle makes of each channel (R136, R139, R143). -/
theorem State.runCycle_out (s : State) (c : PwmCh) :
    s.runCycle.out c = (s.out c).publish (s.targetOf s.cycleBegun.grantSet c) (s.num (slewParam c)) s.regime.regime := by
  let appended := s.atPublication.appendSnapshot (s.atPublication.snapshotOf s.cycleBegun.grantSet)
  have published : s.runCycle.pwm = (appended.publishOutputs s.cycleBegun.grantSet).pwm := by
    rw [State.runCycle_eq_judgeLoops, State.atJudgement_eq]
    simp [State.judgeLoops, appended]
  have params : appended.params = s.params := by simp [appended]
  have out : appended.out c = s.out c := State.out_congr (by simp [appended]) c
  have regime : s.cycleBegun.regime = s.regime := by simp
  rw [State.out_congr published, State.publishOutputs_out, out, State.targetOf_congr params, State.num_congr params,
    State.grantSet_regime, regime]

theorem State.OutputsOk.runCycle (h : s.OutputsOk) (params : s.ParamsOk) (run : s.running = true) : s.runCycle.OutputsOk := by
  have heaters := s.cycleBegun.grantSet_heaters_le
  rw [State.num_congr (s := s) (by simp)] at heaters
  have most (c : PwmCh) : s.targetOf s.cycleBegun.grantSet c ≤ 1000 := params.targetOf_le (by omega) (by omega) c
  have running : s.runCycle.running = true := (State.running_congr (by simp)).trans run
  refine .of_inRange (fun c => ?_) (fun _ c => ?_) (fun asleep c => ?_) fun off => absurd (off.symm.trans running) Bool.false_ne_true
  · rw [State.runCycle_out]
    exact (h.inRange c).publish (most c) _ _
  · rw [State.runCycle_out, PwmChannel.publish_force]
    exact h.noForceInRun run c
  · have before : s.regime.regime = .dormant := by
      by_contra awake
      exact s.runCycle_woken.1 awake asleep
    rw [State.runCycle_out, before, PwmChannel.publish_dormant]
    exact h.dormant before c

/-! ## Forces, entry to RUN, boundaries, DORMANT and resets -/

/-- A change of one channel in SETUP that keeps setpoint and target (R145, R146). -/
theorem State.OutputsOk.setOut_inSetup (h : s.OutputsOk) (off : s.running = false) (awake : s.regime.regime ≠ .dormant) {c : PwmCh}
    {x : PwmChannel} (inRange : x.InRange) (setpoint : x.setpoint = (s.out c).setpoint) (target : x.target = (s.out c).target) :
    (s.setOut c x).OutputsOk := by
  refine .of_inRange (fun d => ?_) (fun on => absurd (off.symm.trans on) Bool.false_ne_true) (fun asleep => absurd asleep awake) fun _ d => ?_ <;>
    rw [State.out_setOut] <;> split
  next => exact inRange
  next => exact h.inRange d
  next own => rw [own, setpoint, target]; exact h.limp off c
  next => exact h.limp off d

/-- FORCE in either form (R145, R146). -/
theorem State.OutputsOk.forceChannel (h : s.OutputsOk) (awake : s.regime.regime ≠ .dormant) (ch : Byte) (status : Status)
    {f : PwmChannel → PwmChannel} (inRange : ∀ x : PwmChannel, x.InRange → (f x).InRange) (setpoint : ∀ x, (f x).setpoint = x.setpoint)
    (target : ∀ x, (f x).target = x.target) : (forceChannel ch status f s).state.OutputsOk := by
  unfold Machine.forceChannel
  split
  · exact h
  next off =>
  split
  · exact h
  next c _ => exact h.setOut_inSetup (by simpa using off) awake (inRange _ (h.inRange c)) (setpoint _) (target _)

theorem State.OutputsOk.takeBoundary (h : s.OutputsOk) (c : PwmCh) : (takeBoundary s c).OutputsOk := by
  unfold Machine.takeBoundary
  split
  · refine .of_inRange (fun d => ?_) (fun on d => ?_) (fun asleep d => ?_) fun off d => ?_ <;> rw [State.out_setOut] <;> split
    next => exact (h.inRange c).boundary _
    next => exact h.inRange d
    next => exact h.noForceInRun on c
    next => exact h.noForceInRun on d
    next =>
      obtain ⟨setpoint, applied, pending⟩ := h.dormant asleep c
      exact ⟨setpoint, by dsimp only [PwmChannel.boundary]; rw [pending]; exact applied, rfl⟩
    next => exact h.dormant asleep d
    next own => rw [own]; exact h.limp off c
    next => exact h.limp off d
  · exact h

theorem State.OutputsOk.clearForces (h : s.OutputsOk) (awake : s.regime.regime ≠ .dormant) (run : s.running = true) : s.clearForces.OutputsOk := by
  have out (c : PwmCh) : s.clearForces.out c = (s.out c).unforced := get_mapTable ..
  refine .of_inRange (fun c => ?_) (fun _ c => ?_) (fun asleep => absurd asleep awake) fun off => absurd (off.symm.trans run) Bool.false_ne_true
    <;> rw [out]
  · exact (h.inRange c).unforced
  · exact (s.out c).unforced_force

/-- The dormant timer runs out in RUN alone (R78). -/
theorem State.OutputsOk.expireDormant (h : s.OutputsOk) (regime : s.RegimeOk) : (expireDormant s).OutputsOk := by
  unfold Machine.expireDormant
  split
  next due =>
    have timed : s.regime.dormant.isSome = true := by
      cases left : s.regime.dormant with
      | none => simp [left, ranOut] at due
      | some n => rfl
    have run : s.running = true := regime.votes.running_of_regime (by simp [(regime.dormantTimer.mp timed).1])
    let t := s.changeRegime .dormant
    have on : t.running = true := (State.running_congr (by simp [t])).trans run
    have same (c : PwmCh) : t.out c = s.out c := State.out_congr (by simp [t]) c
    have out (c : PwmCh) : State.out { t with pwm := mapTable PwmChannel.toZero t.pwm } c = (s.out c).toZero := by
      rw [← same]
      exact get_mapTable ..
    refine .of_inRange (fun c => ?_) (fun _ c => ?_) (fun _ c => ?_) fun off => absurd (off.symm.trans on) Bool.false_ne_true
      <;> rw [out]
    · exact (h.inRange c).toZero
    · exact h.noForceInRun run c
    · exact ⟨rfl, rfl, rfl⟩
  next => exact h

theorem State.OutputsOk.tick (h : s.OutputsOk) : s.tick.OutputsOk := by
  have out (c : PwmCh) : s.tick.out c = (s.out c).tick := get_mapTable ..
  constructor <;> simp only [out]
  exacts [h.range, h.noForceInRun, h.dormant, h.limp]

theorem State.resetWith_outputsOk (s : State) (r : ResetRecord) : (s.resetWith r).OutputsOk := by
  have pwm : (s.resetWith r).pwm = #v[PwmChannel.initial 400, PwmChannel.initial 400, PwmChannel.initial 500, PwmChannel.initial 0,
      PwmChannel.initial 0, PwmChannel.initial 0] := by simp [State.resetWith, State.afterReset]
  have out (c : PwmCh) : (s.resetWith r).out c = PwmChannel.initial (limpDuty c) := by
    rw [State.out, pwm]
    cases c <;> rfl
  have off : (s.resetWith r).running = false := by simp [State.running, State.resetWith_state]
  have limp (c : PwmCh) : limpDuty c ≤ 1000 := by cases c <;> decide
  have regime : (s.resetWith r).regime.regime = .noRegime := by simp [State.resetWith, State.afterReset]
  refine .of_inRange (fun c => ?_) (fun on => absurd (off.symm.trans on) Bool.false_ne_true)
    (fun asleep => absurd (regime.symm.trans asleep) (by decide)) fun _ c => ?_ <;> rw [out]
  · exact ⟨Nat.zero_le _, limp c, limp c, nofun, nofun⟩
  · exact ⟨rfl, rfl⟩

/-! ## START -/

theorem State.OutputsOk.enterRun (h : s.OutputsOk) : s.enterRun.OutputsOk := by
  have on : s.enterRun.running = true := by simp [State.running, State.enterRun_state]
  have armed (c : PwmCh) : s.guardsArmed.out c = s.out c := State.out_congr (by simp [State.guardsArmed, State.enteringRun]) c
  have out (c : PwmCh) : s.enterRun.out c = (s.out c).unforced := by
    rw [State.enterRun_eq, State.out_congr (s := s.guardsArmed.clearForces) (by simp), ← armed]
    exact get_mapTable ..
  refine .of_inRange (fun c => ?_) (fun _ c => ?_) (fun asleep => absurd asleep s.enterRun_awake)
    fun off => absurd (off.symm.trans on) Bool.false_ne_true
  · rw [out]
    exact (h.inRange c).unforced
  · rw [out]
    exact (s.out c).unforced_force

theorem State.OutputsOk.startCommand (h : s.OutputsOk) (p : Port) : (startCommand p s).state.OutputsOk := by
  rcases startCommand_state p s with e | ⟨-, -, e⟩ <;> rw [e]
  · exact h
  have voted : (s.setVote p true).OutputsOk := h.of_pwm rfl rfl id
  unfold State.addVote State.validate
  dsimp only
  split
  · split
    · exact voted.enterRun
    · exact voted.of_pwm (by simp) (by simp [State.failValidation]) (by simp [State.failValidation])
  · exact voted

/-! ## Every step -/

theorem State.OutputsOk.goodFrame (h : s.OutputsOk) (p : Port) (n : Nat) (echo : Byte) {command : State → Answer}
    (keeps : ∀ {u : State}, u.regime.regime ≠ .dormant → u.OutputsOk → (command u).state.OutputsOk) : (goodFrame p n echo command s).OutputsOk := by
  have awake := s.frameArrives_not_dormant p n
  have arrived : (s.frameArrives p n).OutputsOk := h.of_pwm (by simp) (by simp) fun asleep => absurd asleep awake
  exact (keeps awake arrived).of_pwm (by simp [Machine.goodFrame]) (by simp [Machine.goodFrame]) (by simp [Machine.goodFrame])

/-- A command that leaves the outputs' block alone keeps them sound: it neither begins DORMANT nor enters or leaves RUN. -/
theorem State.OutputsOk.of_exec (h : s.OutputsOk) {c : Instr} (run : exec c s = .next t) (timer : c ≠ .dormantTimerExpiry)
    (reset : c.isReset = false) (start : ∀ p n, c ≠ .start p n) (pwm : t.pwm = s.pwm) : t.OutputsOk := by
  refine h.of_pwm pwm ?_ fun asleep => ?_
  · obtain ⟨isReset, -⟩ | ⟨p, n, isStart, -⟩ | same := exec_setupState run
    · exact absurd (reset.symm.trans isReset) Bool.false_ne_true
    · exact absurd isStart (start p n)
    · exact same
  · by_contra awake
    exact timer ((onlyTheNamedEventsEndDormant c s t run).1 awake asleep)

theorem State.OutputsOk.exec (h : s.OutputsOk) (params : s.ParamsOk) (alloc : s.AllocOk) (regime : s.RegimeOk) {c : Instr}
    (run : exec c s = .next t) : t.OutputsOk := by
  have untouched := h.of_exec run
  cases c <;> obtain rfl := Host.Outcome.next.inj run
  case powerOnReset | resetLineReset | supplyDipReset => exact s.resetWith_outputsOk _
  case start p n => exact h.goodFrame p n _ fun _ ok => ok.startCommand p
  case force p n ch duty =>
    exact h.goodFrame p n _ fun awake ok =>
      ok.forceChannel awake ch _ (fun _ inRange => inRange.forced (Nat.min_le_left ..)) (fun _ => rfl) fun _ => rfl
  case forceRelease p n ch =>
    exact h.goodFrame p n _ fun awake ok => ok.forceChannel awake ch _ (fun _ inRange => inRange.released) (fun _ => rfl) fun _ => rfl
  case periodBoundary c => exact h.takeBoundary c
  case dormantTimerExpiry => exact h.expireDormant regime
  case cycleExpiry =>
    change (expireCycle s).OutputsOk
    unfold expireCycle
    split
    next due => exact h.runCycle params (alloc.running_of_due due)
    next => exact h
  all_goals exact untouched nofun rfl nofun (by simp [Machine.goodFrame, deadFrame, nopCommand, unknownCommand, getpCommand_state, readCommand_state])

/-- Settles O58. -/
theorem stepsKeepTheOutputsSound : Obligations.StepsKeepTheOutputsSound := by
  intro s t run params alloc regime h
  unfold step at run
  split at run
  · obtain rfl := Host.Outcome.next.inj run
    exact h.tick
  next c rest _ =>
    have popped : State.OutputsOk { s with pending := rest } := h.of_pwm rfl rfl id
    exact popped.exec (params.congr rfl) (alloc.congr rfl rfl) (regime.congr rfl rfl rfl rfl rfl) run

end

end Sys2Proof.Machine
end

section
/-!
PROOFS. The step itself: a command from the queue, one microsecond on an empty one; and the three resets (R69, R172, R173).
-/

namespace Sys2Proof.Machine

/-- Settles O1. -/
theorem stepRunsTheFrontCommand : Obligations.StepRunsTheFrontCommand := by
  intro c rest s front
  rw [step, front]

/-! ## A microsecond -/

theorem ranOut_iff {t : Option Nat} : ranOut t = true ↔ t = some 0 := by simp [ranOut]

theorem State.tick_port (s : State) (p : Port) : s.tick.port p = { s.port p with linkTimer := (s.port p).linkTimer.map (· - 1) } :=
  get_mapTable LinkPort.tick ..

theorem State.tick_demand (s : State) (i : Fin 15) : s.tick.demand i = { s.demand i with lease := (s.demand i).lease.map (· - 1) } :=
  get_mapTable Demand.tick ..

theorem State.tick_temp (s : State) (c : TempCh) : s.tick.temp c = { s.temp c with hold := (s.temp c).hold.map (· - 1) } :=
  get_mapTable TempChannel.tick ..

theorem State.tick_flow (s : State) (l : Loop) : s.tick.flow l = { s.flow l with stall := (s.flow l).stall.map (· - 1) } :=
  get_mapTable FlowChannel.tick ..

theorem State.tick_out (s : State) (c : PwmCh) : s.tick.out c = { s.out c with periodLeft := (s.out c).periodLeft.map (· - 1) } :=
  get_mapTable PwmChannel.tick ..

/-- The expiries that a tick on an empty queue brings are those of the timers that then stand at 0 (logs 2 and 3). -/
theorem State.mem_tick_pending {s : State} (empty : s.pending = []) (c : Instr) : c ∈ s.tick.pending ↔ s.tick.isDue c = true := by
  have due : s.tick.isDue c = s.countDown.isDue c := by cases c <;> rfl
  have queue : s.tick.pending = s.countDown.dueExpiries := by
    change s.pending ++ _ = _
    rw [empty, List.nil_append]
  rw [queue, State.mem_dueExpiries, due]

/-- Settles O2. -/
theorem emptyQueueStepIsOneMicrosecond : Obligations.EmptyQueueStepIsOneMicrosecond := by
  intro s empty
  refine ⟨s.tick, by rw [step, empty], s.tick_port, s.tick_demand, s.tick_temp, s.tick_flow, s.tick_out, rfl, ?_, fun c => ?_⟩
  · change (s.pending ++ s.countDown.dueExpiries).Nodup
    rw [empty, List.nil_append]
    exact s.countDown.dueExpiries_nodup
  · rw [State.mem_tick_pending empty]
    cases c <;> simp only [State.isDue, ranOut_iff, Bool.and_eq_true, beq_iff_eq, Bool.false_eq_true]

/-! ## The resets -/

/-- An arrival sets MODE on every port (R63). -/
theorem State.arrive_port (s : State) (p : Port) :
    s.arrive.port p = (s.port p).withFlags ((s.port p).flags ||| Notice.mode.mask) :=
  State.notifyAll_port ..

section
variable (s : State) (r : ResetRecord)

/-- The part as a reset leaves it before the arrival of R69. -/
def State.fresh : State :=
  State.afterReset r s.hvReady s.valveAt #v[(s.port .M).selected, (s.port .B).selected, (s.port .C).selected] s.pending s.timeBase

theorem State.fresh_port (p : Port) : (s.fresh r).port p = LinkPort.initial r (s.port p).selected := by cases p <;> rfl

theorem State.resetWith_eq : s.resetWith r = if s.valveAt then (s.fresh r).arrive else s.fresh r := by
  have entry : s.resetWith r = if (s.fresh r).valve.release = true ∧ (s.fresh r).valveAt = true then (s.fresh r).arrive else s.fresh r := rfl
  have release : (s.fresh r).valve.release = true := rfl
  have level : (s.fresh r).valveAt = s.valveAt := rfl
  rw [entry, release, level]
  simp

theorem State.resetWith_port (p : Port) : (s.resetWith r).port p =
    { LinkPort.initial r (s.port p).selected with
      flags := if s.valveAt then Notice.lost.mask ||| Notice.mode.mask else Notice.lost.mask } := by
  rw [State.resetWith_eq]
  cases s.valveAt
  · exact s.fresh_port r p
  · have attention : lineFor (1#9 ||| Notice.mode.mask) 1#9 = true := by decide
    rw [if_pos rfl, State.arrive_port, State.fresh_port]
    simp only [LinkPort.withFlags, LinkPort.initial, attention]
    rfl

theorem State.resetWith_valve : (s.resetWith r).valve =
    if s.valveAt then
      { state := .settled, fromMode := .separate, toMode := .separate, attempt := 0, dwell := some 30000000
        travel := none, release := true, driveCode := 0 }
    else
      { state := .travel, fromMode := .separate, toMode := .separate, attempt := 1, dwell := none
        travel := some 20000000, release := true, driveCode := 0 } := by
  rw [State.resetWith_eq]
  cases s.valveAt
  · rfl
  · have dwell : (s.fresh r).num .dwell = 30 := by
      rw [State.num, show (s.fresh r).param .dwell = _ from State.afterReset_param ..]
      rfl
    rw [if_pos rfl, if_pos rfl, State.arrive_valve, dwell]
    rfl

theorem State.resetWith_zone (z : Zone) : (s.resetWith r).zone z = ZoneMonitor.initial (z != .cabin) := by
  have zones : (s.resetWith r).zones = #v[ZoneMonitor.initial true, ZoneMonitor.initial true, ZoneMonitor.initial false] := by
    simp [State.resetWith, State.afterReset]
  rw [State.zone, zones]
  cases z <;> rfl

theorem State.resetWith_out (c : PwmCh) : (s.resetWith r).out c = PwmChannel.initial (limpDuty c) := by
  have pwm : (s.resetWith r).pwm = #v[PwmChannel.initial 400, PwmChannel.initial 400, PwmChannel.initial 500, PwmChannel.initial 0,
      PwmChannel.initial 0, PwmChannel.initial 0] := by simp [State.resetWith, State.afterReset]
  rw [State.out, pwm]
  cases c <;> rfl

theorem State.resetWith_startVote (p : Port) : (s.resetWith r).startVote p = false := by
  have votes : (s.resetWith r).setup.votes = Vector.replicate 3 false := by simp [State.resetWith, State.afterReset]
  rw [State.startVote, votes]
  exact get_replicate ..

theorem State.resetWith_demand (i : Fin 15) : (s.resetWith r).demand i = Demand.freeSlot := by
  have demands : (s.resetWith r).demands = Vector.replicate 15 Demand.freeSlot := by simp [State.resetWith, State.afterReset]
  rw [State.demand, demands]
  exact get_replicate ..

theorem State.resetWith_temp (c : TempCh) : (s.resetWith r).temp c = TempChannel.initial := by
  have temps : (s.resetWith r).temps = Vector.replicate 7 TempChannel.initial := by simp [State.resetWith, State.afterReset]
  rw [State.temp, temps]
  exact get_replicate ..

theorem State.resetWith_flow (l : Loop) : (s.resetWith r).flow l = FlowChannel.initial := by
  have flows : (s.resetWith r).flows = Vector.replicate 2 FlowChannel.initial := by simp [State.resetWith, State.afterReset]
  rw [State.flow, flows]
  exact get_replicate ..

theorem State.resetWith_record (l : Loop) : (s.resetWith r).record l = DeliveredRecord.initial := by
  have delivered : (s.resetWith r).delivered = Vector.replicate 2 DeliveredRecord.initial := by simp [State.resetWith, State.afterReset]
  rw [State.record, delivered]
  exact get_replicate ..

theorem State.resetWith_param (q : Param) : (s.resetWith r).param q = ParamEntry.initial q := by
  rw [State.param, State.resetWith_params]
  exact initialParams_get q

end

/-- A power-on reset of the part as it is after reset changes nothing. -/
theorem State.resetWith_reset : State.reset.resetWith { cause := .powerOn, count := 0 } = State.reset := rfl

/-- Settles O3. -/
theorem resetsGiveEveryBlockItsValues : Obligations.ResetsGiveEveryBlockItsValues := by
  refine ⟨fun s => ?_, congrArg Host.Outcome.next State.resetWith_reset⟩
  intro raised Ended
  have ended (r : ResetRecord) : Ended r (s.resetWith r) := by
    refine ⟨s.resetWith_port r, s.resetWith_demand r, ?_, ?_, s.resetWith_valve r, ?_, s.resetWith_temp r, s.resetWith_flow r,
      s.resetWith_record r, s.resetWith_zone r, ?_, s.resetWith_out r, s.resetWith_param r, ?_, s.resetWith_startVote r, ?_⟩
    · simp [State.resetWith, State.afterReset]
    · simp [State.resetWith, State.afterReset]
    · simp [State.resetWith, State.afterReset]
    · simp [State.resetWith, State.afterReset]
    · simp [State.running, State.resetWith_state]
    · simp [State.resetWith, State.afterReset]
  exact ⟨⟨_, rfl, ended _⟩, ⟨_, rfl, ended _⟩, _, rfl, ended _⟩

/-- Settles O51. -/
theorem resetMeetsEveryInvariant : Obligations.ResetMeetsEveryInvariant := by
  have ok (s : State) (r : ResetRecord) : (s.resetWith r).Ok :=
    { ports := s.resetWith_portsOk r, params := (State.afterReset_paramsOk r false false (Vector.replicate 3 false) [] 0).congr (by simp [State.afterReset])
      demands := s.resetWith_demandsOk r, alloc := .resetWith s r, valve := (State.afterReset_valveOk ..).arriveAtEntry
      regime := .resetWith s r, sensing := s.resetWith_sensingOk r, zones := s.resetWith_zonesOk r, outputs := s.resetWith_outputsOk r }
  unfold Obligations.ResetMeetsEveryInvariant
  rw [← State.resetWith_reset]
  exact ok _ _

end Sys2Proof.Machine
end

section
/-!
PROOFS. The link ports' own frames and expiries (R163 to R171, R46, R72).
-/

namespace Sys2Proof.Machine

theorem State.setPort_setPort (s : State) (p : Port) (x y : LinkPort) : (s.setPort p x).setPort p y = s.setPort p y := by
  simp only [State.setPort, put_put]

theorem State.port_setPort_self (s : State) (p : Port) (x : LinkPort) : (s.setPort p x).port p = x := by
  rw [State.port_setPort, if_pos rfl]

theorem hiByte_setWidth (n : NoticeSet) : hiByte (n.setWidth 16) = (n >>> 8).setWidth 8 := by revert n; decide

theorem loByte_setWidth (n : NoticeSet) : loByte (n.setWidth 16) = n.setWidth 8 := by revert n; decide

/-- The NOTICES object: flags, enables and the line (R170). -/
theorem State.noticesObject_eq (s : State) (p : Port) : s.noticesObject p =
    [((s.port p).flags >>> 8).setWidth 8, (s.port p).flags.setWidth 8, ((s.port p).enables >>> 8).setWidth 8,
      (s.port p).enables.setWidth 8, if (s.port p).attention then 1#8 else 0#8] := by
  rw [State.noticesObject, noticeBytes, noticeBytes, hiByte_setWidth, hiByte_setWidth, loByte_setWidth, loByte_setWidth]
  rfl

/-- An answer staged on its port (R163, R164). -/
def Answer.staged (a : Answer) (p : Port) (echo : Byte) : State :=
  a.state.stage p { status := a.status, echo := echo, data := packData a.data }

theorem goodFrame_eq (p : Port) (n : Nat) (echo : Byte) (command : State → Answer) (s : State) :
    goodFrame p n echo command s = (command (s.frameArrives p n)).staged p echo := rfl

/-- A frame that executes nothing writes its port alone (R163). -/
theorem deadFrame_eq (p : Port) (clocks : Nat) (status : Status) (echo : Byte) (s : State) :
    deadFrame p clocks status echo s = s.setPort p
      { s.port p with
        sent := (s.port p).staged.shifted clocks, staged := { status := status, echo := echo, data := Vector.replicate 9 0#8 } } := by
  rw [deadFrame, State.stage, State.shiftOut, State.setPort_setPort, State.port_setPort_self, packData_nil]

/-- Settles O8. -/
theorem portFramesAnswerForThemselves : Obligations.PortFramesAnswerForThemselves := by
  intro p extra set code clocks frame s t l acked enabled notices
  have answered (x : LinkPort) (echo : Byte) (command : State → Answer)
      (answer : command t = ⟨t.setPort p x, .ok, (t.setPort p x).noticesObject p⟩) :
      Host.Outcome.next (goodFrame p extra echo command s) =
        (.next ((t.setPort p x).stage p { status := .ok, echo := echo, data := packData (notices x) }) :
          Host.Outcome State Fault Refusal) := by
    rw [goodFrame_eq, answer, Answer.staged, State.noticesObject_eq, State.port_setPort_self]
  refine ⟨?_, answered acked _ _ rfl, answered enabled _ _ rfl, ?_, ?_, ?_⟩
  · change Host.Outcome.next (goodFrame p extra 0x01#8 (nopCommand p) s) = _
    rw [goodFrame_eq, nopCommand, Answer.staged, State.noticesObject_eq]
  · change Host.Outcome.next (goodFrame p extra code unknownCommand s) = _
    rw [goodFrame_eq, unknownCommand, Answer.staged, packData_nil]
  · exact congrArg Host.Outcome.next (deadFrame_eq ..)
  · exact congrArg Host.Outcome.next (deadFrame_eq ..)

/-- Settles O14. -/
theorem allowanceAndLinkExpiriesAct : Obligations.AllowanceAndLinkExpiriesAct := by
  intro p s flags t
  have allowance : expireAllowance s = if s.alloc.allowLease = some 0 then
      { s with
        alloc := { s.alloc with inForce := .safe, allowLease := none }
        ports := put s.ports (portIx .B)
          { s.port .B with
            flags := flags .B .allowance, attention := flags .B .allowance &&& (s.port .B).enables != 0#9 } } else s := by
    simp only [expireAllowance, ranOut_iff]
    rfl
  have lost : (s.setPort p { s.port p with linkTimer := none, presence := .absent }).notify .lost p = t := by
    rw [State.notify, State.setPort_setPort, State.port_setPort_self]
    rfl
  have link : expireLink s p = if (s.port p).linkTimer = some 0 then (if s.running = true ∧ p ≠ .C then t.resolve else t) else s := by
    have running : t.running = s.running := rfl
    have changed : t.presenceChanged p = if s.running = true ∧ p ≠ .C then t.resolve else t := by
      cases p <;> simp [State.presenceChanged, State.resolveInRun, hasVote, running]
    simp only [expireLink, ranOut_iff, lost, changed]
  exact ⟨congrArg Host.Outcome.next allowance, congrArg Host.Outcome.next link⟩

end Sys2Proof.Machine
end

section
/-!
PROOFS. The Demand Table's refused POST, its RENEW and DROP, its lease expiries, and ALLOW (R5, R10 to R14, R44).
-/

namespace Sys2Proof.Machine

/-- Two states that agree in every field. -/
theorem State.eq_of_fields {s t : State} (ports : t.ports = s.ports) (demands : t.demands = s.demands) (age : t.age = s.age)
    (alloc : t.alloc = s.alloc) (valve : t.valve = s.valve) (regime : t.regime = s.regime) (temps : t.temps = s.temps)
    (flows : t.flows = s.flows) (delivered : t.delivered = s.delivered) (zones : t.zones = s.zones) (shed : t.shed = s.shed)
    (pwm : t.pwm = s.pwm) (params : t.params = s.params) (setup : t.setup = s.setup) (ring : t.ring = s.ring)
    (resetRecord : t.resetRecord = s.resetRecord) (hvReady : t.hvReady = s.hvReady) (valveAt : t.valveAt = s.valveAt)
    (pending : t.pending = s.pending) (timeBase : t.timeBase = s.timeBase) : t = s := by
  cases s
  cases t
  simp_all

/-! ## A slot freed -/

theorem State.dormantUpkeep_eq (s : State) : s.dormantUpkeep =
    { s with
      regime :=
        { s.regime with
          dormant :=
            if s.regime.regime = .park ∧ s.tableEmpty = true then
              some (s.regime.dormant.getD (seconds (s.num .dormantDelay)))
            else none } } := by
  refine .trans ?_ (congrArg (fun r => { s with regime := r }) s.dormantUpkeep_regime)
  apply State.eq_of_fields <;> simp

/-- The table with a slot freed. -/
theorem tableEmpty_put_free (s : State) (i : Fin 15) (age : List (Fin 15)) :
    State.tableEmpty { s.setDemand i Demand.freeSlot with age := age } = allSlots.all (fun j => j == i || !(s.demand j).stands) := by
  let freed : State := { s.setDemand i Demand.freeSlot with age := age }
  have free (j : Fin 15) : (!(freed.demand j).stands) = (j == i || !(s.demand j).stands) := by
    rw [show freed.demand j = if j = i then Demand.freeSlot else s.demand j from State.demand_setDemand ..]
    by_cases own : j = i
    · simp [own, Demand.freeSlot, Demand.stands]
    · simp [own]
  exact congrArg allSlots.all (funext free)

section
variable {s : State}

theorem State.RegimeOk.dormant_none (h : s.RegimeOk) {i : Fin 15} (stands : (s.demand i).stands = true) : s.regime.dormant = none := by
  by_contra some
  have empty := (h.dormantTimer.mp (Option.isSome_iff_ne_none.mpr some)).2
  exact Bool.false_ne_true (((State.tableEmpty_iff s).mp empty i).symm.trans stands)

/-- A standing slot freed, the timer of R78 not running while it stood. -/
theorem State.freeSlot_eq (h : s.RegimeOk) {i : Fin 15} (stands : (s.demand i).stands = true) : s.freeSlot i =
    { s with
      demands := put s.demands i Demand.freeSlot
      age := s.age.erase i
      regime :=
        { s.regime with
          dormant :=
            if s.regime.regime = .park ∧ allSlots.all (fun j => j == i || !(s.demand j).stands) = true then
              some (seconds (s.num .dormantDelay))
            else none } } := by
  rw [State.freeSlot, State.dormantUpkeep_eq, tableEmpty_put_free]
  have stopped : State.regime { s.setDemand i Demand.freeSlot with age := s.age.erase i } = { s.regime with dormant := none } := by
    change s.regime = _
    rw [← h.dormant_none stands]
  rw [stopped]
  rfl

/-- A slot whose lease runs stands (R3). -/
theorem State.DemandsOk.stands_of_lease (h : s.DemandsOk) {i : Fin 15} {n : Nat} (lease : (s.demand i).lease = some n) :
    (s.demand i).stands = true := by
  by_contra free
  rw [h.freeClear i (by simpa using free)] at lease
  cases lease

end

/-- Settles O12. -/
theorem leaseExpiryFreesItsSlot : Obligations.LeaseExpiryFreesItsSlot := by
  intro z k s ok regime i l flags demands
  have expiry : expireLease s z k = if (s.demand i).lease = some 0 then (s.freeSlot i).notify .expired (zonePort z) else s := by
    simp only [expireLease, ranOut_iff]
    rfl
  change if _ then Host.Outcome.next (expireLease s z k) = _ else Host.Outcome.next (expireLease s z k) = _
  rw [expiry]
  split
  next => rfl
  next due =>
    have due : (s.demand i).lease = some 0 := by simpa using due
    rw [if_pos due, State.freeSlot_eq regime (ok.stands_of_lease due), ok.ageNodup.erase_eq_filter]
    simp only [seconds_eq]
    rfl

/-! ## ALLOW -/

/-- Every ALLOW reply, its numbers written out (R44, R51). -/
theorem State.allowData_eq (s : State) (v l : Nat) : s.allowData v l =
    u16 v ++ u8 l ++ u16 (match s.alloc.inForce with | .noAllowance => 0 | .safe => s.num .safeAllow | .granted x => x) ++
      u8 (match s.alloc.inForce with | .noAllowance => 0 | .safe => 1 | .granted _ => 2) ++
      u8 (match s.alloc.allowLease with | none => 0 | some us => max 1 ((us + 999999) / 1000000)) := by
  rw [State.allowData, State.allowanceValue]
  cases s.alloc.inForce <;> cases s.alloc.allowLease <;> rfl

theorem State.allowData_congr {s t : State} (inForce : t.alloc.inForce = s.alloc.inForce) (lease : t.alloc.allowLease = s.alloc.allowLease)
    (params : t.params = s.params) (v l : Nat) : t.allowData v l = s.allowData v l := by
  simp only [State.allowData, State.allowanceValue, inForce, lease, State.num_congr params]

/-- Settles O13. -/
theorem allowSetsThePendingAllowance : Obligations.AllowSetsThePendingAllowance := by
  intro p extra value lease s t v l inForce source left data
  have alloc : t.alloc = s.alloc := by simp [t]
  have running : t.running = s.running := State.running_congr (by simp [t])
  have same : t.params = s.params := by simp [t]
  change Host.Outcome.next ((allowCommand p value lease t).staged p 0x05#8) = _
  clear_value t
  have reported (u : State) (inForce : u.alloc.inForce = t.alloc.inForce) (timed : u.alloc.allowLease = t.alloc.allowLease)
      (params : u.params = t.params) (v l : Nat) : packData (u.allowData v l) = data v l := by
    have before : u.allowData v l = s.allowData v l :=
      State.allowData_congr (inForce.trans (by rw [alloc])) (timed.trans (by rw [alloc])) (params.trans same) v l
    exact congrArg packData (before.trans (s.allowData_eq v l))
  have clamped : clampNat 0 1600 value.toNat = v := Nat.zero_max _
  refine congrArg Host.Outcome.next ?_
  unfold allowCommand Answer.staged
  rw [running]
  split
  · rw [reported t rfl rfl rfl]
  split
  · rw [reported t rfl rfl rfl]
  · dsimp only
    rw [reported _ (by rfl) (by rfl) (by rfl), clamped, alloc]
    rfl

/-! ## A refused POST -/

theorem toNat_of_slotOfByte {b : Byte} {k : Fin 4} (h : slotOfByte b = some k) : b.toNat = k.val := by
  unfold slotOfByte at h
  split at h
  · exact congrArg Fin.val (Option.some.inj h)
  · cases h

theorem toNat_of_senseOfByte {b : Byte} {x : Sense} (h : senseOfByte b = some x) : b.toNat = x.code := by
  unfold senseOfByte at h
  split_ifs at h with cool heat <;> obtain rfl := Option.some.inj h
  exacts [cool ▸ rfl, heat ▸ rfl]

theorem toNat_of_tierOfByte {b : Byte} {t : Tier} (h : tierOfByte b = some t) : b.toNat = t.code := by
  unfold tierOfByte at h
  split_ifs at h with protect charge drive comfort <;> obtain rfl := Option.some.inj h
  exacts [protect ▸ rfl, charge ▸ rfl, drive ▸ rfl, comfort ▸ rfl]

theorem slotOfByte_eq_none {b : Byte} (h : slotOfByte b = none) : 3 < b.toNat := by
  by_contra few
  rw [slotOfByte, dif_pos (by omega)] at h
  cases h

theorem senseOfByte_eq_none {b : Byte} (h : senseOfByte b = none) : 1 < b.toNat := by
  by_contra few
  obtain zero | one : b.toNat = 0 ∨ b.toNat = 1 := by omega
  · rw [senseOfByte_of_code (x := .cool) zero] at h
    cases h
  · rw [senseOfByte_of_code (x := .heat) one] at h
    cases h

theorem tierOfByte_eq_none {b : Byte} (h : tierOfByte b = none) : 3 < b.toNat := by
  by_contra few
  obtain zero | one | two | three : b.toNat = 0 ∨ b.toNat = 1 ∨ b.toNat = 2 ∨ b.toNat = 3 := by omega
  · rw [tierOfByte_of_code (t := .protect) zero] at h
    cases h
  · rw [tierOfByte_of_code (t := .charge) one] at h
    cases h
  · rw [tierOfByte_of_code (t := .drive) two] at h
    cases h
  · rw [tierOfByte_of_code (t := .comfort) three] at h
    cases h

theorem slot_toNat_le {b : Byte} {k : Fin 4} (h : slotOfByte b = some k) : ¬ 3 < b.toNat := by
  rw [toNat_of_slotOfByte h]
  omega

theorem sense_toNat_le {b : Byte} {x : Sense} (h : senseOfByte b = some x) : ¬ 1 < b.toNat := by
  rw [toNat_of_senseOfByte h]
  cases x <;> decide

theorem tier_toNat_le {b : Byte} {t : Tier} (h : tierOfByte b = some t) : ¬ 3 < b.toNat := by
  rw [toNat_of_tierOfByte h]
  cases t <;> decide

/-- A POST that a check refuses changes nothing and answers with the check's status and the named slot's record (R5, R10). -/
theorem postCommand_of_verdict {s : State} {p : Port} {slot sense tier : Byte} {asked : Word} {status : Status} (weight lease : Byte)
    (h : s.postVerdict p slot sense tier asked = some status) :
    postCommand p slot sense tier weight asked lease s = ⟨s, status, s.postRecord (portZone p) slot⟩ := by
  unfold State.postVerdict at h
  dsimp only at h
  unfold postCommand
  by_cases run : s.running = false
  · rw [if_pos run] at h ⊢
    rw [← Option.some.inj h]
    rfl
  rw [if_neg run] at h ⊢
  rw [LinkPort.flag_lost]
  by_cases lost : (s.port p).flags.getLsbD 0 = true
  · rw [if_pos lost] at h ⊢
    rw [← Option.some.inj h]
    rfl
  rw [if_neg lost] at h ⊢
  cases named : slotOfByte slot with
  | none =>
    rw [if_pos (slotOfByte_eq_none named)] at h
    rw [← Option.some.inj h]
    rfl
  | some k =>
  rw [if_neg (slot_toNat_le named)] at h
  cases sensed : senseOfByte sense with
  | none =>
    rw [if_pos (.inl (senseOfByte_eq_none sensed))] at h
    rw [← Option.some.inj h]
    rfl
  | some x =>
  cases tiered : tierOfByte tier with
  | none =>
    rw [if_pos (.inr (tierOfByte_eq_none tiered))] at h
    rw [← Option.some.inj h]
    rfl
  | some t =>
  rw [if_neg (not_or.mpr ⟨sense_toNat_le sensed, tier_toNat_le tiered⟩)] at h
  have named' : (if x.code = 0 then Sense.cool else Sense.heat) = x := by cases x <;> rfl
  have heats : x.code = 1 ↔ x ≠ .cool := by cases x <;> decide
  have charges : t.code = 1 ↔ t = .charge := by cases t <;> decide
  have nothing : asked.toNat = 0 ↔ asked = 0#16 := BitVec.toNat_eq (y := 0#16) |>.symm
  simp only [toNat_of_slotOfByte named, toNat_of_senseOfByte sensed, toNat_of_tierOfByte tiered, named', heats, charges, nothing] at h
  dsimp only
  split_ifs at h with motor charge zero conflict
  · rw [if_pos motor, ← Option.some.inj h]
    rfl
  · rw [if_neg motor, if_pos charge, ← Option.some.inj h]
    rfl
  · rw [if_neg motor, if_neg charge, if_pos zero, ← Option.some.inj h]
    rfl
  · rw [if_neg motor, if_neg charge, if_neg zero, State.takePost, State.senseRule_eq_not_any, conflict, ← Option.some.inj h,
      State.postRecord, named]
    rfl

/-- The named slot's record in a reply, zeros for a slot number above 3 (R10). -/
theorem State.packData_postRecord (s : State) (z : Zone) (slot : Byte) : packData (s.postRecord z slot) =
    if h : slot.toNat < 4 then packData (s.demand (postedIx z ⟨slot.toNat, h⟩)).record else Vector.replicate 9 0#8 := by
  unfold State.postRecord slotOfByte
  split <;> rename_i h <;> split at h <;> simp_all [packData_nil]

/-- Settles O10. -/
theorem postRefusedLeavesTheTable : Obligations.PostRefusedLeavesTheTable := by
  intro p extra slot sense tier weight lease asked status s verdict t
  have demands : t.demands = s.demands := by simp [t]
  rw [← s.frameArrives_postVerdict p extra] at verdict
  refine ⟨?_, demands, by simp [t]⟩
  rw [exec_post, goodFrame_eq, postCommand_of_verdict weight lease verdict, Answer.staged]
  dsimp only
  rw [State.packData_postRecord]
  simp only [State.demand_congr (t := s.frameArrives p extra) (s := s) demands]
  rfl

end Sys2Proof.Machine
end

section
/-!
PROOFS. What a frame carries out on SDO, and what it leaves of the other ports (R163 to R165).
-/

namespace Sys2Proof.Machine

/-! ## The bits of a reply -/

theorem byteBits_length (b : Byte) : (byteBits b).length = 8 := rfl

theorem byteBits_getD (b : Byte) {k : Nat} (few : k < 8) : (byteBits b).getD k false = b.getLsbD (7 - k) := by
  interval_cases k <;> rfl

theorem flatMap_byteBits_length (bs : List Byte) : (bs.flatMap byteBits).length = 8 * bs.length := by
  induction bs with
  | nil => rfl
  | cons b bs ih => rw [List.flatMap_cons, List.length_append, ih, byteBits_length, List.length_cons]; omega

/-- The bits of some bytes, most significant first, and zeros beyond them. -/
theorem flatMap_byteBits_getD (bs : List Byte) (k : Nat) :
    (bs.flatMap byteBits).getD k false = (bs.getD (k / 8) 0#8).getLsbD (7 - k % 8) := by
  induction bs generalizing k with
  | nil => simp
  | cons b bs ih =>
    rw [List.flatMap_cons]
    by_cases few : k < 8
    · rw [List.getD_append _ _ _ _ (by rw [byteBits_length]; exact few), byteBits_getD b few, Nat.div_eq_of_lt few, Nat.mod_eq_of_lt few]
      rfl
    · obtain ⟨j, rfl⟩ : ∃ j, k = j + 8 := ⟨k - 8, by omega⟩
      rw [List.getD_append_right _ _ _ _ (by rw [byteBits_length]; omega), byteBits_length, Nat.add_sub_cancel, ih,
        Nat.add_div_right j (by decide), Nat.add_mod_right, List.getD_cons_succ]

theorem Reply.bytes_length (r : Reply) : r.bytes.length = 12 := by simp [Reply.bytes]

theorem Reply.shifted_length (r : Reply) (clocks : Nat) : (r.shifted clocks).length = clocks := by
  rw [Reply.shifted, List.length_take, List.length_append, flatMap_byteBits_length, Reply.bytes_length, List.length_replicate]
  omega

/-- What SDO carries: the reply's bits, and zeros beyond them (R164). -/
theorem Reply.shifted_getD (r : Reply) {clocks k : Nat} (within : k < clocks) :
    (r.shifted clocks).getD k false = (r.bytes.getD (k / 8) 0#8).getLsbD (7 - k % 8) := by
  have bits : (r.bytes.flatMap byteBits).length = 96 := by rw [flatMap_byteBits_length, Reply.bytes_length]
  have padded (j : Nat) : (r.bytes.flatMap byteBits ++ List.replicate (clocks - 96) false).getD j false =
      (r.bytes.flatMap byteBits).getD j false := by
    by_cases inside : j < 96
    · rw [List.getD_append _ _ _ _ (by omega)]
    · rw [List.getD_append_right _ _ _ _ (by omega), List.getD_eq_default _ _ (by omega : (r.bytes.flatMap byteBits).length ≤ j)]
      simp [List.getD]
  rw [Reply.shifted, ← flatMap_byteBits_getD, ← padded]
  simp [List.getD, within]

/-! ## The other ports -/

theorem LinkPort.Told.sent {l m : LinkPort} (h : l.Told m) : m.sent = l.sent := by
  rcases h with rfl | ⟨f, -, rfl⟩ <;> rfl

/-- A port told notices keeps everything but flags and line, and no flag is cleared. -/
theorem LinkPort.Told.kept {l m : LinkPort} (h : l.Told m) :
    m = { l with flags := m.flags, attention := m.attention } ∧ l.flags &&& ~~~m.flags = 0#9 := by
  rcases h with rfl | ⟨f, -, rfl⟩
  · exact ⟨rfl, BitVec.and_not_self _⟩
  · refine ⟨rfl, ?_⟩
    rw [LinkPort.withFlags_flags, BitVec.not_or, ← BitVec.and_assoc, BitVec.and_not_self]
    exact BitVec.zero_and

/-- A frame on port p, its shift apart: it leaves what SDO carried there, and tells other ports at most notices. -/
structure State.Spares (p : Port) (s t : State) : Prop where
  sent : (t.port p).sent = (s.port p).sent
  others : ∀ q, q ≠ p → (s.port q).Told (t.port q)

theorem State.Told.spares {s t : State} (h : s.Told t) (p : Port) : State.Spares p s t := ⟨(h p).sent, fun q _ => h q⟩

theorem State.Spares.trans {p : Port} {s t u : State} (h : State.Spares p s t) (k : State.Spares p t u) : State.Spares p s u :=
  ⟨k.sent.trans h.sent, fun q other => (h.others q other).trans (k.others q other)⟩

theorem State.spares_setPort {s : State} {p : Port} {x : LinkPort} (sent : x.sent = (s.port p).sent) : State.Spares p s (s.setPort p x) := by
  refine ⟨by rw [State.port_setPort_self, sent], fun q other => .inl ?_⟩
  rw [State.port_setPort, if_neg other]

theorem State.spares_of_ports {s t : State} (ports : t.ports = s.ports) (p : Port) : State.Spares p s t :=
  (State.Told.of_ports ports).spares p

/-- The shift sets what SDO carried, on its own port alone. -/
theorem State.shiftOut_sent (s : State) (p : Port) (clocks : Nat) : ((s.shiftOut p clocks).port p).sent = (s.port p).staged.shifted clocks := by
  rw [State.shiftOut, State.port_setPort_self]

theorem State.shiftOut_others (s : State) {p q : Port} (other : q ≠ p) (clocks : Nat) : (s.shiftOut p clocks).port q = s.port q := by
  rw [State.shiftOut, State.port_setPort, if_neg other]

theorem State.restartLink_spares (s : State) (p : Port) : State.Spares p s (s.restartLink p) := by
  unfold State.restartLink
  dsimp only
  split
  · exact (State.spares_setPort (by rfl)).trans ((State.told_presenceChanged _ p).spares p)
  · exact State.spares_setPort (by rfl)

theorem goodFrame_spares (p : Port) (n : Nat) (echo : Byte) {command : State → Answer} (s : State)
    (keeps : ∀ t, State.Spares p t (command t).state) : State.Spares p (s.shiftOut p (96 + n)) (goodFrame p n echo command s) :=
  (((State.told_wake _).spares p).trans (State.restartLink_spares _ p)).trans ((keeps _).trans (State.spares_setPort (by rfl)))

theorem nextCommand_spares (p : Port) (s : State) : State.Spares p s (nextCommand p s).state := by
  unfold nextCommand
  split
  · exact (State.Told.refl s).spares p
  · exact State.spares_setPort (by rfl)

/-- Every frame shifts out, and then spares the other ports. -/
theorem exec_frame_spares {c : Instr} {p : Port} {clocks : Nat} {s t : State} (on : c.frameOn = some (p, clocks)) (run : exec c s = .next t) :
    State.Spares p (s.shiftOut p clocks) t := by
  have same (u : State) : State.Spares p u u := (State.Told.refl u).spares p
  cases c <;> cases on <;> obtain rfl := Host.Outcome.next.inj run
  case nop n => exact goodFrame_spares _ _ _ _ fun _ => same _
  case post n slot sense tier weight asked lease => exact goodFrame_spares _ _ _ _ fun _ => State.spares_of_ports (by simp) _
  case renew n slots => exact goodFrame_spares _ _ _ _ fun _ => State.spares_of_ports (by simp) _
  case drop n slots => exact goodFrame_spares _ _ _ _ fun _ => State.spares_of_ports (by simp) _
  case allow n value lease => exact goodFrame_spares _ _ _ _ fun _ => State.spares_of_ports (by simp) _
  case vote n v => exact goodFrame_spares _ _ _ _ fun _ => (State.told_voteCommand _ _ _).spares _
  case setp n id first second => exact goodFrame_spares _ _ _ _ fun _ => (State.told_setpCommand _ _ _ _ _).spares _
  case getp n id => exact goodFrame_spares _ _ _ _ fun _ => State.spares_of_ports (by rw [getpCommand_state]) _
  case start n => exact goodFrame_spares _ _ _ _ fun _ => (State.told_startCommand _ _).spares _
  case unstart n => exact goodFrame_spares _ _ _ _ fun _ => State.spares_of_ports (by simp) _
  case force n ch duty => exact goodFrame_spares _ _ _ _ fun _ => State.spares_of_ports (by simp [forceCommand]) _
  case forceRelease n ch => exact goodFrame_spares _ _ _ _ fun _ => State.spares_of_ports (by simp [forceReleaseCommand]) _
  case clearvalve n => exact goodFrame_spares _ _ _ _ fun _ => (State.told_clearvalveCommand _).spares _
  case read n cls index => exact goodFrame_spares _ _ _ _ fun _ => State.spares_of_ports (by rw [readCommand_state]) _
  case next n => exact goodFrame_spares _ _ _ _ (nextCommand_spares _)
  case ack n set => exact goodFrame_spares _ _ _ _ fun _ => State.spares_setPort (by rfl)
  case enable n set => exact goodFrame_spares _ _ _ _ fun _ => State.spares_setPort (by rfl)
  case unknown n code => exact goodFrame_spares _ _ _ _ fun _ => same _
  case shortFrame clocks => exact State.spares_setPort (by rfl)
  case badCrc n frame => exact State.spares_setPort (by rfl)

/-- Settles O7. -/
theorem framesCarryTheReplyAndStayOnTheirPort : Obligations.FramesCarryTheReplyAndStayOnTheirPort := by
  intro c p clocks s t on run old body bytes
  obtain ⟨sent, others⟩ := exec_frame_spares on run
  rw [State.shiftOut_sent] at sent
  refine ⟨by rw [sent, Reply.shifted_length], fun k within => by rw [sent, Reply.shifted_getD _ within]; rfl, fun q other => ?_⟩
  have told := others q other
  rw [State.shiftOut_others s other] at told
  exact told.kept

end Sys2Proof.Machine
end

section
/-!
PROOFS. The mode valve's edges, its timers and CLEARVALVE (R54 to R68), and what the modes make available (R52, R53, R61).
-/

namespace Sys2Proof.Machine

/-! ## Notices set twice -/

theorem State.ports_ext {s t : State} (h : ∀ p, t.port p = s.port p) : t.ports = s.ports := by
  apply vector_ext_get
  intro i
  fin_cases i
  exacts [h .M, h .B, h .C]

/-- A notice that stands everywhere is not set anew. -/
theorem State.notifyAll_twice (s : State) (n : Notice) : (s.notifyAll n).notifyAll n = s.notifyAll n := by
  have ports : ((s.notifyAll n).notifyAll n).ports = (s.notifyAll n).ports := State.ports_ext fun p => by
    rw [State.notifyAll_port, State.notifyAll_port, LinkPort.withFlags_flags, BitVec.or_assoc, BitVec.or_self]
    rfl
  apply State.eq_of_fields ports <;> simp

/-! ## Travel and arrival -/

/-- The valve in a travel's attempt (R62). -/
def Valve.travelling (v : Valve) (from_ to_ : Mode) (attempt travelMax : Nat) (valveAt : Bool) : Valve :=
  { v with
    state := .travel, fromMode := from_, toMode := to_, attempt := attempt, dwell := none
    travel := some (1000000 * travelMax), release := from_ == to_ || !valveAt, driveCode := modeCode to_ }

/-- The valve after an arrival (R63). -/
def Valve.arrived (v : Valve) (dwell : Nat) : Valve :=
  { v with
    state := .settled, fromMode := v.toMode, attempt := 0, travel := none, dwell := some (1000000 * dwell), driveCode := modeCode v.toMode }

theorem State.beginTravel_eq (s : State) (m n : Mode) (k : Nat) :
    s.beginTravel m n k = { s with valve := s.valve.travelling m n k (s.num .travelMax) s.valveAt } := by
  have release : (if m = n then true else !s.valveAt) = (m == n || !s.valveAt) := by
    by_cases same : m = n <;> simp [same]
  rw [State.beginTravel, release, seconds_eq]
  rfl

theorem State.arrive_eq (s : State) : s.arrive = State.notifyAll { s with valve := s.valve.arrived (s.num .dwell) } .mode := by
  rw [State.arrive, seconds_eq]
  rfl

section
variable (s : State)

theorem assertValveAt_eq : assertValveAt s =
    if s.valve.state = .travel ∧ s.valve.release = true then
      State.notifyAll { s with valveAt := true, valve := s.valve.arrived (s.num .dwell) } .mode
    else { s with valveAt := true } := by
  simp only [assertValveAt, State.arrive_eq]
  rfl

theorem deassertValveAt_settled (settled : s.valve.state = .settled) : deassertValveAt s =
    State.notifyAll { s with valveAt := false, valve := s.valve.travelling s.valve.toMode s.valve.toMode 1 (s.num .travelMax) false } .mode := by
  simp only [deassertValveAt, settled, State.beginTravel_eq]
  rfl

/-- Settles O28. -/
theorem valveAtArrivesAndLosesArrival : Obligations.ValveAtArrivesAndLosesArrival := by
  intro s ok up down arrived lost
  refine ⟨congrArg Host.Outcome.next ?_, congrArg Host.Outcome.next ?_, fun settled => ⟨?_, ?_⟩⟩
  · rw [assertValveAt_eq]
    by_cases arrives : s.valve.state = .travel ∧ s.valve.release = true
    · have same : s.valve.arrived (s.num .dwell) = arrived := by simp [Valve.arrived, arrived, arrives.2]
      rw [if_pos arrives, if_pos arrives, same]
    · rw [if_neg arrives, if_neg arrives]
  · cases state : s.valve.state with
    | settled =>
      have same : s.valve.travelling s.valve.toMode s.valve.toMode 1 (s.num .travelMax) false = lost := by simp [Valve.travelling, lost]
      rw [deassertValveAt_settled s state, same]
    | travel => simp only [deassertValveAt, state]; rfl
    | retryWait => simp only [deassertValveAt, state]; rfl
    | locked => simp only [deassertValveAt, state]; rfl
  · simp only [Valve.availability, settled, lost, Bool.and_self]
  · rw [ok.lines, Valve.lines, settled]

end

/-- A travel entered: it arrives at once where VALVE_AT is asserted and the mark is set (R63). -/
theorem State.arriveAtEntry_eq (s : State) : s.arriveAtEntry =
    if s.valve.release = true ∧ s.valveAt = true then State.notifyAll { s with valve := s.valve.arrived (s.num .dwell) } .mode else s := by
  rw [State.arriveAtEntry, State.arrive_eq]

/-- Settles O29. -/
theorem valveTimersDriveTheAttempts : Obligations.ValveTimersDriveTheAttempts := by
  intro s ok waiting locked released again arrived
  refine ⟨congrArg Host.Outcome.next ?_, fun travel => ⟨?_, ?_⟩, congrArg Host.Outcome.next ?_, congrArg Host.Outcome.next ?_⟩
  · simp only [timeoutTravel, ranOut_iff, seconds_eq, ite_not]
    rfl
  · simp only [Valve.availability, travel, waiting]
  · simp only [Valve.availability, travel, locked]
  · have entered : s.valve.travelling s.valve.fromMode s.valve.toMode (s.valve.attempt + 1) (s.num .travelMax) s.valveAt = again := rfl
    simp only [retryTravel, ranOut_iff, State.beginTravel_eq, entered, State.arriveAtEntry_eq, ite_not]
    rfl
  · have settles : s.valve.state = .settled ∧ s.valve.dwell = some 0 ↔ s.valve.dwell = some 0 := by
      refine and_iff_right_of_imp fun out => ?_
      by_contra moving
      rw [(ok.moving moving).1] at out
      cases out
    simp only [expireDwell, ranOut_iff, settles]

/-- The valve that CLEARVALVE leaves in LOCKED: a fresh travel, arrived at once where VALVE_AT is asserted and the mark is set (R68). -/
def Valve.cleared (v : Valve) (travelMax dwell : Nat) (valveAt : Bool) : Valve :=
  if (v.travelling v.fromMode v.toMode 1 travelMax valveAt).release = true ∧ valveAt = true then
    (v.travelling v.fromMode v.toMode 1 travelMax valveAt).arrived dwell
  else v.travelling v.fromMode v.toMode 1 travelMax valveAt

/-- CLEARVALVE in LOCKED sets MODE once, whether or not the travel arrives at once (R68). -/
theorem State.clearValve_eq (s : State) : s.clearValve =
    State.notifyAll { s with valve := s.valve.cleared (s.num .travelMax) (s.num .dwell) s.valveAt } .mode := by
  let again := s.valve.travelling s.valve.fromMode s.valve.toMode 1 (s.num .travelMax) s.valveAt
  have entered : (s.beginTravel s.valve.fromMode s.valve.toMode 1).notifyAll .mode = { s.notifyAll .mode with valve := again } := by
    rw [State.beginTravel_eq]
    rfl
  have level : State.valveAt { s.notifyAll .mode with valve := again } = s.valveAt := by simp
  have dwell : State.num { s.notifyAll .mode with valve := again } .dwell = s.num .dwell := State.num_congr (by simp) _
  rw [State.clearValve, entered, State.arriveAtEntry_eq, level, dwell, Valve.cleared]
  split
  · exact congrArg (fun u : State => { u with valve := again.arrived (s.num .dwell) }) (s.notifyAll_twice .mode)
  · rfl

theorem State.valveObject_eq (s : State) : s.valveObject =
    u8 s.valve.state.code ++ u8 s.valve.fromMode.code ++ u8 s.valve.toMode.code ++ u8 s.valve.attempt ++
      u16 (match s.valve.dwell with | none => 0 | some us => max 1 ((us + 999999) / 1000000)) := by
  rw [State.valveObject]
  cases s.valve.dwell <;> rfl

/-- Settles O30. -/
theorem clearvalveUnlocks : Obligations.ClearvalveUnlocks := by
  intro p extra s t released again arrived rest object
  have valve : t.valve = s.valve := by simp [t]
  have valveAt : t.valveAt = s.valveAt := by simp [t]
  have num (q : Param) : t.num q = s.num q := State.num_congr (by simp [t]) q
  change Host.Outcome.next ((clearvalveCommand t).staged p 0x0C#8) = _
  clear_value t
  refine congrArg Host.Outcome.next ?_
  have reported (u : State) : packData u.valveObject = object u.valve :=
    congrArg packData u.valveObject_eq
  unfold clearvalveCommand
  rw [valve]
  split
  next is =>
    have cleared : s.valve.cleared (s.num .travelMax) (s.num .dwell) s.valveAt =
        if released = true ∧ s.valveAt = true then arrived else again := rfl
    rw [if_neg (not_not.mpr is), Answer.staged]
    dsimp only
    rw [reported, State.clearValve_eq, valve, valveAt, num, num, cleared]
    simp only [State.notifyAll_frame]
  next other =>
    rw [Answer.staged]
    dsimp only
    rw [reported, valve]

end Sys2Proof.Machine
end

section
/-!
PROOFS. The Regime Controller: what a resolution makes of it (R73, R74), HV_READY's edges, votes, its timers, and what a good frame
does to it (R71 to R81).
-/

namespace Sys2Proof.Machine

/-! ## A resolution as a function of what it reads -/

/-- The regime a resolution gives, from the regime in force, the two effective votes and HV_READY (R73, R81). -/
def Regime.next (r : Regime) (charge drive hvReady : Bool) : Regime :=
  if r = .dormant then .dormant
  else if charge && hvReady then (if r = .priming ∨ r = .charge then r else .priming)
  else if drive then .drive
  else .park

/-- The Regime Controller after a change to a regime (R75 to R78). -/
def RegimeCtl.changed (c : RegimeCtl) (r : Regime) (empty : Bool) (primeTime dormantDelay : Nat) : RegimeCtl :=
  if c.regime = r then c
  else
    { c with
      regime := r
      prime := if r = .priming then some (1000000 * primeTime) else none
      dormant := if r = .park ∧ empty = true then some (1000000 * dormantDelay) else none }

/-- The Regime Controller after a resolution (R73, R74). -/
def RegimeCtl.resolved (c : RegimeCtl) (charge drive hvReady empty : Bool) (primeTime dormantDelay : Nat) : RegimeCtl :=
  RegimeCtl.changed { c with chargePending := charge && !hvReady } (c.regime.next charge drive hvReady) empty primeTime dormantDelay

section
variable (s : State)

theorem State.resolvedRegime_eq : s.resolvedRegime = s.regime.regime.next s.chargeVote s.driveVote s.hvReady := rfl

theorem State.changeRegime_regime_eq (r : Regime) :
    (s.changeRegime r).regime = s.regime.changed r s.tableEmpty (s.num .primeTime) (s.num .dormantDelay) := by
  rw [State.changeRegime_regime, seconds_eq, seconds_eq]
  rfl

theorem State.resolve_regime_eq : s.resolve.regime =
    s.regime.resolved s.chargeVote s.driveVote s.hvReady s.tableEmpty (s.num .primeTime) (s.num .dormantDelay) :=
  State.changeRegime_regime_eq s.settleChargePending s.resolvedRegime

/-- A change of regime is one of the Regime Controller, told on every port. -/
theorem State.changeRegime_eq {r : Regime} (other : s.regime.regime ≠ r) : s.changeRegime r =
    State.notifyAll { s with regime := s.regime.changed r s.tableEmpty (s.num .primeTime) (s.num .dormantDelay) } .regime := by
  rw [State.changeRegime, if_neg other, RegimeCtl.changed, if_neg other, seconds_eq, seconds_eq]

end

/-- A second resolution of the same votes finds nothing to do. -/
theorem RegimeCtl.resolved_twice (c : RegimeCtl) (charge drive hvReady empty : Bool) (primeTime dormantDelay : Nat) :
    (c.resolved charge drive hvReady empty primeTime dormantDelay).resolved charge drive hvReady empty primeTime dormantDelay =
      c.resolved charge drive hvReady empty primeTime dormantDelay := by
  cases c with | mk r voteM voteB pending prime dormant =>
  cases r <;> cases charge <;> cases drive <;> cases hvReady <;> rfl

/-- From PARK, a resolution with fewer votes before one with more leaves nothing behind. -/
theorem RegimeCtl.resolved_after {c : RegimeCtl} (park : c.regime = .park) (charge drive more more' hvReady empty : Bool)
    (primeTime dormantDelay : Nat) :
    (c.resolved charge drive hvReady empty primeTime dormantDelay).resolved (charge || more) (drive || more') hvReady empty primeTime
        dormantDelay =
      c.resolved (charge || more) (drive || more') hvReady empty primeTime dormantDelay := by
  cases c with | mk r voteM voteB pending prime dormant =>
  obtain rfl : r = .park := park
  cases charge <;> cases drive <;> cases hvReady <;> cases more <;> cases more' <;> rfl

section
variable {s t : State}

theorem State.chargeVote_eq (s : State) : s.chargeVote = (s.regime.voteB == .charge && (s.port .B).presence == .present) := rfl

theorem State.driveVote_eq (s : State) : s.driveVote = (s.regime.voteM == .drive && (s.port .M).presence == .present) := rfl

/-- A resolution reads nothing that it writes but the regime: a second one finds nothing to do. -/
theorem State.resolve_twice (s : State) : s.resolve.resolve = s.resolve := by
  have presence (p : Port) : (s.resolve.port p).presence = (s.port p).presence := s.told_resolve.presence p
  have votes : s.resolve.regime.voteB = s.regime.voteB ∧ s.resolve.regime.voteM = s.regime.voteM := by
    rw [State.resolve_regime]
    split <;> exact ⟨rfl, rfl⟩
  have charge : s.resolve.chargeVote = s.chargeVote := by rw [State.chargeVote_eq, State.chargeVote_eq, presence, votes.1]
  have drive : s.resolve.driveVote = s.driveVote := by rw [State.driveVote_eq, State.driveVote_eq, presence, votes.2]
  have empty : s.resolve.tableEmpty = s.tableEmpty := State.tableEmpty_congr (by simp)
  have num (q : Param) : s.resolve.num q = s.num q := State.num_congr (by simp) q
  have hvReady : s.resolve.hvReady = s.hvReady := by simp
  have regime : s.resolve.resolve.regime = s.resolve.regime := by
    rw [State.resolve_regime_eq s.resolve, charge, drive, empty, num, num, hvReady, State.resolve_regime_eq, RegimeCtl.resolved_twice]
  have same : s.resolve.regime.regime = s.resolve.resolvedRegime := by rw [← State.resolve_to, regime]
  have ports : s.resolve.resolve.ports = s.resolve.ports := State.ports_ext fun p => by rw [State.resolve_port, if_pos same]
  apply State.eq_of_fields ports (regime := regime) <;> simp

theorem State.changeRegime_same {r : Regime} (same : s.regime.regime = r) : s.changeRegime r = s := if_pos same

/-- A resolution that finds the regime as it should be settles charge-pending alone (R73, R74). -/
theorem State.resolve_of_same (same : s.resolvedRegime = s.regime.regime) : s.resolve = s.settleChargePending :=
  State.changeRegime_same (s := s.settleChargePending) same.symm

theorem State.resolve_of_ne (other : s.resolvedRegime ≠ s.regime.regime) : s.resolve =
    State.notifyAll
      { s with
        regime := s.settleChargePending.regime.changed s.resolvedRegime s.tableEmpty (s.num .primeTime) (s.num .dormantDelay) } .regime :=
  State.changeRegime_eq s.settleChargePending (Ne.symm other)

/-- Settles O32. -/
theorem resolutionTakesTheFirstRow : Obligations.ResolutionTakesTheFirstRow := by
  intro s charge drive r result t
  have next : s.resolvedRegime = result := by
    have rows : r.next charge drive s.hvReady = result := by
      unfold Regime.next
      simp only [result]
      cases r <;> rfl
    exact rows
  have regime : t.regime.regime = result := s.resolve_to.trans next
  have pending : t.regime.chargePending = (charge && !s.hvReady) := by
    change s.resolve.regime.chargePending = _
    rw [State.resolve_regime]
    split <;> rfl
  refine ⟨regime, pending, fun same => ?_, fun other => ?_⟩
  · rw [pending]
    exact State.resolve_of_same (next.trans same)
  · have moved : s.resolvedRegime ≠ s.regime.regime := by rw [next]; exact other
    change s.resolve = _
    rw [State.resolve_of_ne moved, next, RegimeCtl.changed, if_neg (show ¬ s.settleChargePending.regime.regime = result from Ne.symm other)]
    rfl

/-! ## HV_READY -/

/-- A wake is a change to PARK, and then a resolution (R80). -/
theorem State.wake_of_dormant (asleep : s.regime.regime = .dormant) : s.wake = (s.changeRegime .park).resolve := if_pos asleep

/-- Settles O33. -/
theorem hvReadyEdgesResolve : Obligations.HvReadyEdgesResolve := by
  intro s ok up down parked
  have running : up.running = s.running := rfl
  have rise : riseHvReady s = if s.running = false then up else if s.regime.regime = .dormant then parked.resolve else up.resolve := by
    change up.wake.resolveInRun = _
    by_cases run : s.running = true
    · rw [if_neg (by simp [run])]
      have on : up.wake.running = true := (State.running_congr (by simp [up])).trans run
      rw [State.resolveInRun, if_pos on]
      by_cases asleep : s.regime.regime = .dormant
      · have park : up.changeRegime .park = parked := by
          have empty : up.tableEmpty = true := ok.dormantEmpty asleep
          have other : ¬ up.regime.regime = .park := by simp [up, asleep]
          rw [State.changeRegime_eq up other, RegimeCtl.changed, if_neg other, if_neg (by decide), if_pos ⟨rfl, empty⟩]
          rfl
        rw [if_pos asleep, State.wake_of_dormant (s := up) asleep, park, State.resolve_twice]
      · rw [if_neg asleep, State.wake_of_awake (s := up) asleep]
    · have off : s.running = false := by simpa using run
      have none : s.regime.regime = .noRegime := ok.setupHasNone.mpr off
      rw [if_pos off, State.wake_of_awake (s := up) (by simp [up, none]), State.resolveInRun, running, if_neg run]
  have fall : fallHvReady s = if s.running = false then down else down.resolve := by
    change (if s.running = true then down.resolve else down) = _
    cases s.running <;> rfl
  exact ⟨congrArg Host.Outcome.next rise, congrArg Host.Outcome.next fall, (State.resolve_dormant_iff down).mpr⟩

/-! ## The regime's timers -/

/-- Settles O34. -/
theorem regimeTimersEnterChargeAndDormant : Obligations.RegimeTimersEnterChargeAndDormant := by
  intro s ok asleep
  refine ⟨congrArg Host.Outcome.next ?_, fun time => ?_, fun due => ?_⟩
  · unfold expirePrime
    by_cases due : s.regime.prime = some 0
    · have priming : s.regime.regime = .priming := ok.prime.mp (by rw [due]; rfl)
      have run : s.running = true := ok.votes.running_of_regime (by simp [priming])
      have charging : s.chargeCondition = true := (ok.charging run).mpr (.inl priming)
      have settled : s.settleChargePending = s := by
        have pending : (s.chargeVote && !s.hvReady) = s.regime.chargePending := by rw [ok.pending, run, Bool.true_and]
        rw [State.settleChargePending, pending]
      have other : s.regime.regime ≠ .charge := by simp [priming]
      rw [if_pos ⟨priming, ranOut_iff.mpr due⟩, if_pos charging, settled, State.changeRegime_eq s other, if_neg (not_not.mpr due),
        RegimeCtl.changed, if_neg other]
      rfl
    · rw [if_neg fun both => due (ranOut_iff.mp both.2), if_pos due]
  · change Host.Outcome.next (expireDormant s) = _
    rw [expireDormant, if_neg fun out => time (ranOut_iff.mp out)]
  · have park : s.regime.regime = .park := (ok.dormantTimer.mp (by rw [due]; rfl)).1
    let told := State.notifyAll { s with regime := { s.regime with regime := .dormant, prime := none, dormant := none } } .regime
    have entered : s.changeRegime .dormant = told := by
      have other : s.regime.regime ≠ .dormant := by simp [park]
      rw [State.changeRegime_eq s other, RegimeCtl.changed, if_neg other]
      rfl
    have out : expireDormant s = { told with pwm := mapTable PwmChannel.toZero told.pwm } := by
      rw [expireDormant, if_pos (ranOut_iff.mpr due), entered]
    have same : told.pwm = s.pwm := by simp [told]
    refine ⟨expireDormant s, rfl, fun c => ?_, by rw [out]⟩
    rw [out, same]
    exact get_mapTable ..

end

end Sys2Proof.Machine
end

section
/-!
PROOFS. What a good frame does before its command: the link timer, DORMANT's end and the return of its port (R80, R163, R171).
-/

namespace Sys2Proof.Machine

/-- A resolution of a regime record, from the ports that are there and what else of a state it reads. -/
def RegimeCtl.resolvedIn (c : RegimeCtl) (s : State) (here : Port → Bool) : RegimeCtl :=
  c.resolved (c.voteB == .charge && here .B) (c.voteM == .drive && here .M) s.hvReady s.tableEmpty (s.num .primeTime)
    (s.num .dormantDelay)

/-- The record after a resolution that started from a regime: its timers move only where the regime in force changes. -/
def RegimeCtl.settled (c : RegimeCtl) (start : Regime) (charge drive hvReady empty : Bool) (primeTime dormantDelay : Nat) : RegimeCtl :=
  let result := start.next charge drive hvReady
  { c with
    regime := result, chargePending := charge && !hvReady
    prime := if result = c.regime then c.prime else if result = .priming then some (1000000 * primeTime) else none
    dormant := if result = c.regime then c.dormant else if result = .park ∧ empty = true then some (1000000 * dormantDelay) else none }

section
variable (c : RegimeCtl) (charge drive hvReady empty : Bool) (primeTime dormantDelay : Nat)

theorem RegimeCtl.resolved_eq_settled :
    c.resolved charge drive hvReady empty primeTime dormantDelay =
      c.settled c.regime charge drive hvReady empty primeTime dormantDelay := by
  cases c with | mk r voteM voteB pending prime dormant =>
  cases r <;> cases charge <;> cases drive <;> cases hvReady <;> rfl

/-- A wake's resolution starts from PARK (R80). -/
theorem RegimeCtl.woken_eq_settled (asleep : c.regime = .dormant) :
    (c.changed .park empty primeTime dormantDelay).resolved charge drive hvReady empty primeTime dormantDelay =
      c.settled .park charge drive hvReady empty primeTime dormantDelay := by
  cases c with | mk r voteM voteB pending prime dormant =>
  obtain rfl : r = .dormant := asleep
  cases charge <;> cases drive <;> cases hvReady <;> rfl

end

/-- A port with REGIME set. -/
def LinkPort.noted (l : LinkPort) : LinkPort := l.withFlags (l.flags ||| Notice.regime.mask)

theorem LinkPort.noted_noted (l : LinkPort) : l.noted.noted = l.noted := by
  rw [LinkPort.noted, LinkPort.noted, LinkPort.withFlags_flags, BitVec.or_assoc, BitVec.or_self]
  rfl

section
variable {s t : State}

theorem State.resolve_regime_in (demands : t.demands = s.demands) (params : t.params = s.params) (hvReady : t.hvReady = s.hvReady) :
    t.resolve.regime = t.regime.resolvedIn s fun q => (t.port q).presence == .present := by
  rw [State.resolve_regime_eq, hvReady, State.tableEmpty_congr demands, State.num_congr params, State.num_congr params]
  rfl

/-- Ports that carry REGIME keep it through a resolution. -/
theorem State.resolve_port_noted {q : Port} {l : LinkPort} (noted : s.port q = l.noted) : s.resolve.port q = l.noted := by
  obtain same | told := s.resolve_port_cases q
  · exact same.trans noted
  · rw [told, noted]
    exact l.noted_noted

/-- A good frame's port before the resolution: the reply gone out, the link timer fresh, PRESENT. -/
def State.arrivedPort (s : State) (p : Port) (extra : Nat) (l : LinkPort) : LinkPort :=
  { l with
    sent := (s.port p).staged.shifted (96 + extra), linkTimer := some (1000000 * s.num .linkTimeout), presence := .present }

theorem State.restartLink_shiftOut (s : State) (p : Port) (extra : Nat) :
    (s.shiftOut p (96 + extra)).restartLink p =
      if (s.port p).presence = .absent then (s.setPort p (s.arrivedPort p extra (s.port p))).presenceChanged p
      else s.setPort p (s.arrivedPort p extra (s.port p)) := by
  simp only [State.restartLink, State.shiftOut, State.setPort_setPort, State.port_setPort_self, seconds_eq]
  rfl

/-- Which ports are there once a frame has come on one of them. -/
def State.hereWith (s : State) (p q : Port) : Bool := q == p || (s.port q).presence == .present

theorem State.hereWith_of_present {p : Port} (present : (s.port p).presence = .present ∨ p = .C) {q : Port} (voter : q ≠ .C) :
    s.hereWith p q = ((s.port q).presence == .present) := by
  unfold State.hereWith
  by_cases same : q = p
  · subst same
    simp [present.resolve_right voter]
  · simp [same]

/-! ### A port that comes back to an awake part -/

theorem State.hereWith_setPort (s : State) {p : Port} {l : LinkPort} (there : l.presence = .present) (q : Port) :
    (((s.setPort p l).port q).presence == .present) = s.hereWith p q := by
  unfold State.hereWith
  rw [State.port_setPort]
  by_cases same : q = p
  · simp [same, there]
  · simp [same]

/-- A frame on a port that is there, or that has no vote, writes its port alone. -/
theorem State.frameArrives_of_awake {p : Port} (extra : Nat) (awake : s.regime.regime ≠ .dormant)
    (quiet : (s.port p).presence = .present ∨ s.running = false ∨ p = .C) :
    s.frameArrives p extra = s.setPort p (s.arrivedPort p extra (s.port p)) := by
  rw [State.frameArrives, State.wake_of_awake (by simpa [State.shiftOut] using awake), State.restartLink_shiftOut]
  by_cases absent : (s.port p).presence = .absent
  · have off : s.running = false ∨ p = .C := quiet.resolve_left (by simp [absent])
    rw [if_pos absent, State.presenceChanged]
    obtain setup | rfl := off
    · have still : (s.setPort p (s.arrivedPort p extra (s.port p))).running = false := (State.running_congr (by simp)).trans setup
      rw [State.resolveInRun, still, if_neg Bool.false_ne_true, ite_self]
    · rfl
  · rw [if_neg absent]

/-- A frame that brings a voting port back in RUN resolves. -/
theorem State.frameArrives_of_back {p : Port} (extra : Nat) (awake : s.regime.regime ≠ .dormant) (run : s.running = true)
    (back : (s.port p).presence = .absent ∧ p ≠ .C) :
    s.frameArrives p extra = (s.setPort p (s.arrivedPort p extra (s.port p))).resolve := by
  have voter : hasVote p = true := by
    cases p
    exacts [rfl, rfl, absurd rfl back.2]
  have on : (s.setPort p (s.arrivedPort p extra (s.port p))).running = true := (State.running_congr (by simp)).trans run
  rw [State.frameArrives, State.wake_of_awake (by simpa [State.shiftOut] using awake), State.restartLink_shiftOut, if_pos back.1,
    State.presenceChanged, if_pos voter, State.resolveInRun, if_pos on]

/-! ### A frame that ends DORMANT -/

/-- From PARK, a resolution before a port is there leaves nothing behind for the one after. -/
theorem RegimeCtl.resolvedIn_hereWith {c : RegimeCtl} (park : c.regime = .park) (s : State) (p : Port) :
    (c.resolvedIn s fun q => (s.port q).presence == .present).resolvedIn s (s.hereWith p) = c.resolvedIn s (s.hereWith p) := by
  have votes (charge drive : Bool) :
      (c.resolved charge drive s.hvReady s.tableEmpty (s.num .primeTime) (s.num .dormantDelay)).voteB = c.voteB ∧
      (c.resolved charge drive s.hvReady s.tableEmpty (s.num .primeTime) (s.num .dormantDelay)).voteM = c.voteM := by
    unfold RegimeCtl.resolved RegimeCtl.changed
    split <;> exact ⟨rfl, rfl⟩
  have split (vote : Bool) (q : Port) :
      (vote && s.hereWith p q) = (vote && (s.port q).presence == .present || vote && q == p) := by
    rw [State.hereWith, Bool.or_comm, Bool.and_or_distrib_left]
  simp only [RegimeCtl.resolvedIn, (votes _ _).1, (votes _ _).2, split]
  exact RegimeCtl.resolved_after park ..

/-- The part as a frame's wake leaves it, with the frame's port there (R80, R163). -/
def State.wokenBy (s : State) (p : Port) (extra : Nat) : State :=
  (((s.shiftOut p (96 + extra)).changeRegime .park).resolve).setPort p (s.arrivedPort p extra (s.port p)).noted

section
variable {p : Port} (extra : Nat) (asleep : s.regime.regime = .dormant)
include asleep

theorem State.resolved_port_of_dormant (q : Port) :
    (((s.shiftOut p (96 + extra)).changeRegime .park).resolve).port q = ((s.shiftOut p (96 + extra)).port q).noted := by
  have other : ¬ (s.shiftOut p (96 + extra)).regime.regime = .park := by simp [State.shiftOut, asleep]
  apply State.resolve_port_noted
  rw [State.changeRegime_port, if_neg other]
  rfl

theorem State.frameArrives_of_dormant : s.frameArrives p extra =
    if (s.port p).presence = .absent then (s.wokenBy p extra).presenceChanged p else s.wokenBy p extra := by
  have num : (((s.shiftOut p (96 + extra)).changeRegime .park).resolve).num .linkTimeout = s.num .linkTimeout :=
    State.num_congr (by simp [State.shiftOut]) _
  have port := State.resolved_port_of_dormant (p := p) extra asleep p
  rw [State.shiftOut, State.port_setPort_self, ← State.shiftOut] at port
  rw [State.frameArrives, State.wake_of_dormant (by simpa [State.shiftOut] using asleep), State.restartLink, port, num, seconds_eq]
  rfl

omit asleep in
theorem State.wokenBy_port : (s.wokenBy p extra).port p = (s.arrivedPort p extra (s.port p)).noted := State.port_setPort_self ..

theorem State.wokenBy_port_of_ne {q : Port} (other : q ≠ p) : (s.wokenBy p extra).port q = (s.port q).noted := by
  rw [State.wokenBy, State.port_setPort, if_neg other, State.resolved_port_of_dormant extra asleep, State.shiftOut, State.port_setPort,
    if_neg other]

theorem State.wokenBy_presence (q : Port) : (((s.wokenBy p extra).port q).presence == .present) = s.hereWith p q := by
  unfold State.hereWith
  by_cases same : q = p
  · subst same
    rw [State.wokenBy_port extra]
    simp [LinkPort.noted, LinkPort.withFlags, State.arrivedPort]
  · rw [State.wokenBy_port_of_ne extra asleep same]
    simp [same, LinkPort.noted, LinkPort.withFlags]

omit asleep in
theorem State.wokenBy_regime : (s.wokenBy p extra).regime =
    (s.regime.changed .park s.tableEmpty (s.num .primeTime) (s.num .dormantDelay)).resolvedIn s fun q => (s.port q).presence == .present := by
  have parked : ((s.shiftOut p (96 + extra)).changeRegime .park).regime =
      s.regime.changed .park s.tableEmpty (s.num .primeTime) (s.num .dormantDelay) := by
    rw [State.changeRegime_regime_eq]
    rfl
  have presence (q : Port) : (((s.shiftOut p (96 + extra)).changeRegime .park).port q).presence = (s.port q).presence := by
    rw [(State.told_changeRegime _ _).presence]
    simp only [State.shiftOut, State.port_setPort]
    split
    · next same => rw [same]
    · rfl
  change (((s.shiftOut p (96 + extra)).changeRegime .park).resolve.setPort _ _).regime = _
  rw [State.setPort_regime, State.resolve_regime_in (s := s) (by simp) (by simp) (by simp), parked]
  simp only [presence]

end

/-- The regime after a frame that ends DORMANT: resolved from PARK with the frame's port there. -/
theorem State.frameArrives_regime_of_dormant {p : Port} (extra : Nat) (asleep : s.regime.regime = .dormant) (run : s.running = true) :
    (s.frameArrives p extra).regime =
      (s.regime.changed .park s.tableEmpty (s.num .primeTime) (s.num .dormantDelay)).resolvedIn s (s.hereWith p) := by
  have park : (s.regime.changed .park s.tableEmpty (s.num .primeTime) (s.num .dormantDelay)).regime = .park := by
    simp [RegimeCtl.changed, asleep]
  have there (present : (s.port p).presence = .present ∨ p = .C) : (s.wokenBy p extra).regime =
      (s.regime.changed .park s.tableEmpty (s.num .primeTime) (s.num .dormantDelay)).resolvedIn s (s.hereWith p) := by
    rw [State.wokenBy_regime, RegimeCtl.resolvedIn, RegimeCtl.resolvedIn, State.hereWith_of_present present (by decide),
      State.hereWith_of_present present (by decide)]
  rw [State.frameArrives_of_dormant extra asleep]
  by_cases absent : (s.port p).presence = .absent
  · rw [if_pos absent, State.presenceChanged]
    by_cases voter : hasVote p = true
    · have on : (s.wokenBy p extra).running = true := (State.running_congr (by simp [State.wokenBy, State.shiftOut])).trans run
      rw [if_pos voter, State.resolveInRun, if_pos on, State.resolve_regime_in (s := s) (by simp [State.wokenBy, State.shiftOut])
        (by simp [State.wokenBy, State.shiftOut]) (by simp [State.wokenBy, State.shiftOut]), State.wokenBy_regime,
        ← RegimeCtl.resolvedIn_hereWith park]
      simp only [State.wokenBy_presence extra asleep]
    · rw [if_neg voter]
      refine there (.inr ?_)
      cases p
      exacts [absurd rfl voter, absurd rfl voter, rfl]
  · rw [if_neg absent]
    refine there (.inl ?_)
    cases present : (s.port p).presence
    exacts [rfl, absurd present absent]

/-- What the frame's resolution gives, written out from the regime it starts from. -/
theorem State.frameArrives_regime {p : Port} (extra : Nat) (run : s.running = true)
    (acts : s.regime.regime = .dormant ∨ ((s.port p).presence = .absent ∧ p ≠ .C)) :
    (s.frameArrives p extra).regime =
      s.regime.settled (if s.regime.regime = .dormant then .park else s.regime.regime) (s.regime.voteB == .charge && s.hereWith p .B)
        (s.regime.voteM == .drive && s.hereWith p .M) s.hvReady s.tableEmpty (s.num .primeTime) (s.num .dormantDelay) := by
  by_cases asleep : s.regime.regime = .dormant
  · rw [if_pos asleep, State.frameArrives_regime_of_dormant extra asleep run, ← RegimeCtl.woken_eq_settled _ _ _ _ _ _ _ asleep,
      RegimeCtl.resolvedIn, RegimeCtl.changed, if_neg (by simp [asleep])]
  · rw [if_neg asleep, ← RegimeCtl.resolved_eq_settled, State.frameArrives_of_back extra asleep run (acts.resolve_left asleep),
      State.resolve_regime_in (s := s) (by simp) (by simp) (by simp)]
    simp only [State.hereWith_setPort s (p := p) (l := s.arrivedPort p extra (s.port p)) rfl]
    rfl

/-- A port after the frame: REGIME set where the regime changed, the frame's own port arrived. -/
theorem State.frameArrives_port {p : Port} (extra : Nat) (run : s.running = true)
    (acts : s.regime.regime = .dormant ∨ ((s.port p).presence = .absent ∧ p ≠ .C)) (q : Port) :
    (s.frameArrives p extra).port q =
      (fun l : LinkPort => if (s.frameArrives p extra).regime.regime = s.regime.regime then l else l.noted)
        (if q = p then s.arrivedPort p extra (s.port p) else s.port q) := by
  by_cases asleep : s.regime.regime = .dormant
  · have awake : ¬ (s.frameArrives p extra).regime.regime = s.regime.regime := by
      rw [asleep]
      exact s.frameArrives_not_dormant p extra
    have told : (s.wokenBy p extra).port q = (if q = p then s.arrivedPort p extra (s.port p) else s.port q).noted := by
      by_cases same : q = p
      · rw [if_pos same, same, State.wokenBy_port]
      · rw [if_neg same, State.wokenBy_port_of_ne extra asleep same]
    generalize (if q = p then s.arrivedPort p extra (s.port p) else s.port q) = l at told ⊢
    beta_reduce
    rw [if_neg awake, State.frameArrives_of_dormant extra asleep, State.presenceChanged, State.resolveInRun]
    split_ifs
    exacts [State.resolve_port_noted told, told, told, told]
  · have back := State.frameArrives_of_back extra asleep run (acts.resolve_left asleep)
    beta_reduce
    rw [back, State.resolve_to, State.resolve_port, ← State.port_setPort s p q]
    simp only [eq_comm (a := (s.setPort p (s.arrivedPort p extra (s.port p))).resolvedRegime)]
    rfl

/-- Settles O6. -/
theorem goodFramesRestartWakeAndRestore : Obligations.GoodFramesRestartWakeAndRestore := by
  intro p extra s t arrived
  refine ⟨State.frameArrives_of_awake extra, fun run acts => ?_⟩
  intro here wantsCharge start result same flags told
  have regime : t.regime = s.regime.settled start wantsCharge (s.regime.voteM == .drive && here .M) s.hvReady s.tableEmpty
      (s.num .primeTime) (s.num .dormantDelay) := State.frameArrives_regime extra run acts
  have next : start.next wantsCharge (s.regime.voteM == .drive && here .M) s.hvReady = result := by
    have awake : start ≠ .dormant := by
      by_cases asleep : s.regime.regime = .dormant
      · simp [start, asleep]
      · simp [start, asleep]
    exact if_neg awake
  have moved : t.regime.regime = result := by rw [regime, RegimeCtl.settled, next]
  have port (q : Port) := State.frameArrives_port extra run acts q
  refine ⟨by rw [regime, RegimeCtl.settled, next], ?_, fun q other => ?_, ?_⟩
  · rw [port p, if_pos rfl]
    change (if t.regime.regime = _ then _ else _) = _
    rw [moved]
    change _ = arrived (if result = s.regime.regime then _ else _)
    split <;> rfl
  · rw [port q, if_neg other]
    change (if t.regime.regime = _ then _ else _) = _
    rw [moved]
    rfl
  · apply State.eq_of_fields <;> simp [t]

/-! ## VOTE -/

/-- In an awake part of RUN a resolution finds the regime as it should be. -/
theorem State.RegimeOk.resolve_idle (ok : s.RegimeOk) (run : s.running = true) (awake : s.regime.regime ≠ .dormant) : s.resolve = s := by
  have there : s.regime.regime ≠ .noRegime := fun none => by simp [ok.setupHasNone.mp none] at run
  have same : s.resolvedRegime = s.regime.regime := by
    rw [State.resolvedRegime, if_neg awake]
    by_cases charge : s.chargeCondition = true
    · rw [if_pos charge, if_pos ((ok.charging run).mp charge)]
    · have off : s.chargeCondition = false := by simpa using charge
      have uncharged := mt (ok.charging run).mpr charge
      rw [if_neg charge]
      by_cases drive : s.driveVote = true
      · rw [if_pos drive, (ok.driving run).mpr ⟨off, drive⟩]
      · have undriven : s.regime.regime ≠ .drive := fun driving => drive ((ok.driving run).mp driving).2
        rw [if_neg drive]
        cases regime : s.regime.regime <;> simp_all
  have pending : (s.chargeVote && !s.hvReady) = s.regime.chargePending := by rw [ok.pending, run, Bool.true_and]
  rw [State.resolve_of_same same, State.settleChargePending, pending]

theorem State.RegimeOk.resolveInRun_idle (ok : s.RegimeOk) (awake : s.regime.regime ≠ .dormant) : s.resolveInRun = s := by
  rw [State.resolveInRun]
  split
  · next run => exact ok.resolve_idle run awake
  · rfl

/-- A vote of port M is written and, in RUN, resolved; where it is the vote that stood, the resolution has nothing to do (R71). -/
theorem State.RegimeOk.takeVoteM_eq (ok : s.RegimeOk) (awake : s.regime.regime ≠ .dormant) (w : VoteM) :
    s.takeVoteM w = State.resolveInRun { s with regime := { s.regime with voteM := w } } := by
  rw [State.takeVoteM]
  split
  · next same =>
    subst same
    exact (ok.resolveInRun_idle awake).symm
  · rfl

theorem State.RegimeOk.takeVoteB_eq (ok : s.RegimeOk) (awake : s.regime.regime ≠ .dormant) (w : VoteB) :
    s.takeVoteB w = State.resolveInRun { s with regime := { s.regime with voteB := w } } := by
  rw [State.takeVoteB]
  split
  · next same =>
    subst same
    exact (ok.resolveInRun_idle awake).symm
  · rfl

/-- A vote of a port that has one: value 0 or 1 is written and resolved in RUN, any other refused. -/
theorem State.voteCommand_of_regimeOk (ok : s.RegimeOk) (awake : s.regime.regime ≠ .dormant) (p : Port) (v : Byte) :
    let taken : Bool := p != .C && decide (v.toNat ≤ 1)
    let voted : RegimeCtl :=
      if p = .M then { s.regime with voteM := if v.toNat = 0 then .park else .drive }
      else { s.regime with voteB := if v.toNat = 0 then .noCharge else .charge }
    let u := if taken then State.resolveInRun { s with regime := voted } else s
    voteCommand p v s = ⟨u, if taken then .ok else .badArg, u.regimeObject⟩ := by
  have value : v = 0#8 ∨ v = 1#8 ∨ (v ≠ 0#8 ∧ v ≠ 1#8 ∧ ¬ v.toNat ≤ 1) := by
    by_cases small : v.toNat ≤ 1
    · have : v.toNat = 0 ∨ v.toNat = 1 := by omega
      exact this.imp BitVec.eq_of_toNat_eq fun one => .inl (BitVec.eq_of_toNat_eq one)
    · refine .inr (.inr ⟨?_, ?_, small⟩) <;> rintro rfl <;> simp at small
  intro taken voted u
  obtain rfl | rfl | ⟨notZero, notOne, big⟩ := value
  · cases p
    · have state : s.takeVoteM .park = u := ok.takeVoteM_eq awake .park
      rw [← state]
      rfl
    · have state : s.takeVoteB .noCharge = u := ok.takeVoteB_eq awake .noCharge
      rw [← state]
      rfl
    · rfl
  · cases p
    · have state : s.takeVoteM .drive = u := ok.takeVoteM_eq awake .drive
      rw [← state]
      rfl
    · have state : s.takeVoteB .charge = u := ok.takeVoteB_eq awake .charge
      rw [← state]
      rfl
    · rfl
  · have refused : taken = false := by simp [taken, big]
    simp only [u, refused]
    cases p <;> simp [voteCommand, notZero, notOne]

theorem flagByte_eq (b : Bool) : flagByte b = u8 (if b then 1 else 0) := by cases b <;> rfl

/-- Settles O31. -/
theorem voteIsTakenAndResolved : Obligations.VoteIsTakenAndResolved := by
  intro p extra v s ok t taken voted u
  have awake : t.regime.regime ≠ .dormant := s.frameArrives_not_dormant p extra
  have running : t.running = s.running := State.running_congr (by simp [t])
  have command := State.voteCommand_of_regimeOk (ok.frameArrives p extra) awake p v
  have state : (if taken then State.resolveInRun { t with regime := voted } else t) = u := by
    change (if taken then (if t.running then _ else _) else t) = _
    rw [running]
  change Host.Outcome.next ((voteCommand p v t).staged p 0x06#8) = _
  rw [command]
  change Host.Outcome.next (Answer.staged ⟨(if taken then State.resolveInRun { t with regime := voted } else t), _, _⟩ p 0x06#8) = _
  rw [state]
  refine congrArg (fun data => Host.Outcome.next (u.stage p ⟨_, _, packData data⟩)) ?_
  rw [State.regimeObject, flagByte_eq]

end

end Sys2Proof.Machine
end

section
/-!
PROOFS. What gives up when its timer runs out, flow edges, period boundaries, forces and maps (R97, R104 to R106, R134 to R137, R145).
-/

namespace Sys2Proof.Machine

section
variable (s : State)

/-! ## Hold and stall timers -/

/-- Settles O36. -/
theorem holdAndStallExpiriesGiveUp : Obligations.HoldAndStallExpiriesGiveUp := by
  intro ch l s ok blinded stalled z
  refine ⟨congrArg Host.Outcome.next ?_, congrArg Host.Outcome.next ?_⟩
  · by_cases due : (s.temp ch).hold = some 0
    · have stale : (s.temp ch).tag = .stale := (ok.hold ch).mp (by rw [due]; rfl)
      rw [expireHold, if_pos ⟨stale, ranOut_iff.mpr due⟩, if_neg (not_not.mpr due)]
      cases zone : tempZone ch with
      | none => rfl
      | some z =>
        have blind : blinded.usable (zoneTemp z) = false := by
          rw [zoneTemp_of_tempZone zone]
          rw [State.usable_setTemp, if_pos rfl]
          rfl
        change blinded.withConditions z { (s.zone z).cond with blind := !blinded.usable (zoneTemp z) } = _
        rw [blind]
        rfl
    · rw [expireHold, if_neg fun out => due (ranOut_iff.mp out.2), if_pos due]
  · by_cases due : (s.flow l).stall = some 0
    · rw [expireStall, if_pos (ranOut_iff.mpr due), if_neg (not_not.mpr due), State.updateFlow]
      have tag : (stalled.flow l).tag = .stall := by simp [stalled, State.flow_setFlow]
      refine if_congr eq_comm rfl ?_
      change stalled.withConditions z { (s.zone z).cond with stall := (stalled.flow l).tag == .stall } = _
      rw [tag]
      rfl
    · rw [expireStall, if_neg fun out => due (ranOut_iff.mp out), if_pos due]

/-! ## Flow edges -/

theorem State.setFlow_self (l : Loop) : s.setFlow l (s.flow l) = s := by
  rw [State.setFlow, State.flow, put_get]

variable {s}

/-- An edge that leaves the tag leaves the zone's conditions. -/
theorem takeEdge_of_tag {l : Loop} {d : FlowChannel} (channel : s.edgeChannel l = d) (same : d.tag = (s.flow l).tag) :
    takeEdge s l = s.setFlow l d := by
  rw [takeEdge, channel, State.updateFlow, if_pos same]

/-- An edge that ends a stall clears STALL of the loop's zone. -/
theorem takeEdge_of_good {l : Loop} {d : FlowChannel} (channel : s.edgeChannel l = d) (good : d.tag = .good)
    (other : (s.flow l).tag ≠ .good) :
    takeEdge s l = (s.setFlow l d).withConditions (loopZone l) { (s.zone (loopZone l)).cond with stall := false } := by
  have flow : (s.setFlow l d).flow l = d := by simp [State.flow_setFlow]
  rw [takeEdge, channel, State.updateFlow, if_neg (by rw [good]; exact Ne.symm other), State.refreshStall, flow, good]
  rfl

/-- Settles O37. -/
theorem flowEdgeTakesAPeriod : Obligations.FlowEdgeTakesAPeriod := by
  intro l label s time c z stall avg sum measured
  refine congrArg Host.Outcome.next ?_
  have timer : some (halfSeconds (s.num (.stallTime l))) = stall := by rw [halfSeconds_eq]
  cases reference : c.reference with
  | none => exact takeEdge_of_tag (by simp only [State.edgeChannel, timer]; rw [reference]) rfl
  | some r =>
    let taken : FlowChannel := { c with accumulator := sum r, periods := c.periods + 1, reference := some time, stall := stall }
    have channel : s.edgeChannel l =
        if time ≤ r then c
        else if c.periods + 1 = avg then taken.complete (s.param (.kFlow l)).written (s.num (.kFlow l)) avg else taken := by
      simp only [State.edgeChannel, timer]
      rw [reference]
      rfl
    by_cases early : time ≤ r
    · simp only [if_pos early]
      rw [if_pos early] at channel
      rw [takeEdge_of_tag channel rfl]
      exact s.setFlow_self l
    simp only [if_neg early]
    rw [if_neg early] at channel
    by_cases full : c.periods + 1 = avg
    · rw [if_pos full, FlowChannel.complete] at channel
      rw [if_neg (not_not.mpr full)]
      by_cases written : (s.param (.kFlow l)).written = true
      · rw [if_pos written] at channel
        rw [if_neg (by simp [written])]
        by_cases good : c.tag = .good
        · rw [if_pos good]
          exact takeEdge_of_tag channel good.symm
        · rw [if_neg good]
          exact takeEdge_of_good channel rfl good
      · rw [if_neg written] at channel
        rw [if_pos (by simpa using written)]
        exact takeEdge_of_tag channel rfl
    · rw [if_neg full] at channel
      rw [if_pos full]
      exact takeEdge_of_tag channel rfl

end

/-! ## Period boundaries -/

theorem periodParam_num (s : State) (c : PwmCh) : s.num (periodParam c) =
    match c with
    | .pumpM => s.num (.pwmPeriodPump .motor)
    | .pumpB => s.num (.pwmPeriodPump .battery)
    | .fan => s.num .pwmPeriodFan
    | .comp => s.num .pwmPeriodComp
    | .heatC | .heatB => s.num .pwmPeriodHeat := by
  cases c <;> rfl

theorem PwmChannel.level_iff {c : PwmChannel} {left : Nat} (running : c.periodLeft = some left) :
    c.level = true ↔ c.period - max 1 left < c.applied * c.period / 1000 := by
  rw [PwmChannel.level, running]
  exact decide_eq_true_iff

/-- Settles O40. -/
theorem periodBoundaryAppliesThePendingDuty : Obligations.PeriodBoundaryAppliesThePendingDuty := by
  intro c s old period duty new
  have period_eq : s.num (periodParam c) = period := periodParam_num s c
  have boundary : old.boundary (s.num (periodParam c)) = new := by
    rw [period_eq, PwmChannel.boundary]
    simp only [new, duty]
    cases old.pendingDuty <;> rfl
  refine ⟨congrArg Host.Outcome.next ?_, fun left within positive => ?_⟩
  · rw [takeBoundary, boundary]
    exact if_congr ranOut_iff rfl rfl
  · have level : { new with periodLeft := some left }.level = true ↔ period - max 1 left < duty * period / 1000 :=
      PwmChannel.level_iff rfl
    refine ⟨level, fun zero => ?_, fun full => level.mpr ?_⟩
    · rw [← Bool.not_eq_true, level, zero]
      omega
    · rw [full]
      omega

/-! ## Maps -/

/-- A line at its left end is the left ordinate. -/
theorem line_left (x0 x1 y0 y1 : Nat) : ((y0 : Int) + (((y1 : Int) - y0) * ((x0 : Int) - x0)).tdiv ((x1 : Int) - x0)).toNat = y0 := by
  simp

/-- The line between two points, as an integer, is the ordinate it truncates to. -/
theorem line_cast {src x0 x1 : Nat} (y0 y1 : Nat) (left : x0 ≤ src) (right : src ≤ x1) :
    (((y0 : Int) + (((y1 : Int) - y0) * ((src : Int) - x0)).tdiv ((x1 : Int) - x0)).toNat : Int) =
      (y0 : Int) + (((y1 : Int) - y0) * ((src : Int) - x0)).tdiv ((x1 : Int) - x0) := by
  have low := (line_bounds (y0 : Int) (y1 : Int) (Int.ofNat_le.mpr left) (Int.ofNat_le.mpr right)).1
  exact Int.toNat_of_nonneg ((by omega : (0 : Int) ≤ min (y0 : Int) y1).trans low)

section
variable {src : Nat} {x y : Fin 4 → Nat}

/-- The four points of a map, in order. -/
def pointsOf (x y : Fin 4 → Nat) : List (Nat × Nat) := [(x 0, y 0), (x 1, y 1), (x 2, y 2), (x 3, y 3)]

/-- Between two points of an ascending map the map is their line (R137). -/
theorem mapBetween_pointsOf (up : ∀ i j : Fin 4, i.val + 1 = j.val → x i < x j) {i j : Fin 4} (next : i.val + 1 = j.val)
    (left : x i ≤ src) (right : src < x j) :
    mapBetween src (pointsOf x y) = ((y i : Int) + (((y j : Int) - y i) * ((src : Int) - x i)).tdiv ((x j : Int) - x i)).toNat := by
  have first := up 0 1 rfl
  have second := up 1 2 rfl
  have steps : (i = 0 ∧ j = 1) ∨ (i = 1 ∧ j = 2) ∨ (i = 2 ∧ j = 3) := by omega
  rw [pointsOf]
  obtain ⟨rfl, rfl⟩ | ⟨rfl, rfl⟩ | ⟨rfl, rfl⟩ := steps
  · rw [mapBetween_of_lt _ right]
  · rw [mapBetween_of_le _ left, mapBetween_of_lt _ right]
  · rw [mapBetween_of_le _ (by omega), mapBetween_of_le _ left, mapBetween_of_lt _ right]

theorem mapBetween_pointsOf_last (up : ∀ i j : Fin 4, i.val + 1 = j.val → x i < x j) (past : x 3 ≤ src) :
    mapBetween src (pointsOf x y) = y 3 := by
  have first := up 0 1 rfl
  have second := up 1 2 rfl
  have third := up 2 3 rfl
  rw [pointsOf, mapBetween_of_le _ (by omega), mapBetween_of_le _ (by omega), mapBetween_of_le _ past, mapBetween_single]

end

/-- Settles O39. -/
theorem mapsFollowTheirPoints : Obligations.MapsFollowTheirPoints := by
  intro point src s x y duty up
  have first : 0 < src → src ≤ x 0 → duty = y 0 := fun positive least => by
    change mapDuty (pointsOf x y) src = _
    rw [mapDuty, if_neg (by omega)]
    exact if_pos least
  have past (more : x 0 < src) : duty = mapBetween src (pointsOf x y) := by
    change mapDuty (pointsOf x y) src = _
    rw [mapDuty, if_neg (by omega)]
    exact if_neg (Nat.not_le.mpr more)
  have line (i j : Fin 4) (next : i.val + 1 = j.val) (left : x i ≤ src) (right : src < x j) (more : x 0 < src) :
      duty = ((y i : Int) + (((y j : Int) - y i) * ((src : Int) - x i)).tdiv ((x j : Int) - x i)).toNat :=
    (past more).trans (mapBetween_pointsOf up next left right)
  have climb := up 0 1 rfl
  have climb' := up 1 2 rfl
  have climb'' := up 2 3 rfl
  have last : 0 < src → x 3 ≤ src → duty = y 3 := fun _ most => (past (by omega)).trans (mapBetween_pointsOf_last up most)
  refine ⟨fun zero => if_pos zero, first, last, fun i positive here => ?_, fun i j next left right => ?_⟩
  · have inner (j : Fin 4) (next : i.val + 1 = j.val) (more : x 0 < x i) : duty = y i := by
      rw [line i j next here.ge (here ▸ up i j next) (here ▸ more), here]
      exact line_left ..
    have place : i = 0 ∨ i = 1 ∨ i = 2 ∨ i = 3 := by omega
    obtain rfl | rfl | rfl | rfl := place
    · exact first positive here.le
    · exact inner 2 rfl climb
    · exact inner 3 rfl (climb.trans climb')
    · exact last positive here.ge
  · have least : x 0 ≤ x i := by
      have place : i = 0 ∨ i = 1 ∨ i = 2 := by omega
      obtain rfl | rfl | rfl := place
      exacts [le_rfl, climb.le, (climb.trans climb').le]
    rw [line i j next left.le right (by omega)]
    exact ⟨line_cast _ _ left.le right.le, line_toNat_bounds _ _ left.le right.le⟩

/-! ## FORCE -/

theorem pwmOfByte_of_lt {b : Byte} (h : b.toNat < 6) : pwmOfByte b = some (allPwm.get ⟨b.toNat, h⟩) := by
  unfold pwmOfByte
  generalize b.toNat = n at h
  interval_cases n <;> rfl

theorem pwmOfByte_of_ge {b : Byte} (h : ¬ b.toNat < 6) : pwmOfByte b = none := by
  obtain ⟨k, e⟩ : ∃ k, b.toNat = k + 6 := ⟨b.toNat - 6, by omega⟩
  rw [pwmOfByte, e]
  rfl

/-- The OUTPUT object of a channel (R148). -/
def PwmChannel.object (c : PwmChannel) : List Byte := u16 c.setpoint ++ u16 c.applied ++ [if c.force = none then 0#8 else 1#8]

theorem State.outputObject_eq (s : State) (c : PwmCh) : s.outputObject c = (s.out c).object := by
  rw [State.outputObject, PwmChannel.object, flagByte]
  cases (s.out c).force <;> rfl

section
variable {s t : State} {ch : Byte} (status : Status) (f : PwmChannel → PwmChannel)

/-- FORCE of a channel that exists. -/
theorem forceChannel_of_lt (h : ch.toNat < 6) (out : t.pwm = s.pwm) (run : t.running = s.running) (p : Port) (echo : Byte) :
    let k := allPwm.get ⟨ch.toNat, h⟩
    (forceChannel ch status f t).staged p echo =
      if s.running then t.stage p { status := .setupOnly, echo := echo, data := packData (s.out k).object }
      else (t.setOut k (f (s.out k))).stage p { status := status, echo := echo, data := packData (f (s.out k)).object } := by
  intro k
  have old (c : PwmCh) : t.out c = s.out c := by simp [State.out, out]
  have new : (t.setOut k (f (s.out k))).outputObject k = (f (s.out k)).object := by
    rw [State.outputObject_eq, State.out_setOut, if_pos rfl]
  rw [forceChannel, State.forceData, pwmOfByte_of_lt h, run]
  cases s.running
  · change ((t.setOut k (f (t.out k))).stage p ⟨status, echo, packData ((t.setOut k (f (t.out k))).outputObject k)⟩) = _
    rw [old, new]
    rfl
  · change t.stage p ⟨_, _, packData (t.outputObject k)⟩ = _
    rw [State.outputObject_eq, old]
    rfl

theorem forceChannel_of_ge (h : ¬ ch.toNat < 6) (run : t.running = s.running) (p : Port) (echo : Byte) :
    (forceChannel ch status f t).staged p echo =
      t.stage p { status := if s.running then .setupOnly else .badArg, echo := echo, data := Vector.replicate 9 0#8 } := by
  rw [forceChannel, State.forceData, pwmOfByte_of_ge h, run, ← packData_nil]
  cases s.running <;> rfl

end

/-- Settles O41. -/
theorem forceSetsAndReleasesAChannel : Obligations.ForceSetsAndReleasesAChannel := by
  intro p extra ch duty s t d object
  have out : t.pwm = s.pwm := by simp [t]
  have run : t.running = s.running := State.running_congr (by simp [t])
  split
  · next h => exact ⟨congrArg Host.Outcome.next (forceChannel_of_lt _ _ h out run p _),
      congrArg Host.Outcome.next (forceChannel_of_lt _ _ h out run p _)⟩
  · next h => exact ⟨congrArg Host.Outcome.next (forceChannel_of_ge _ _ h run p _),
      congrArg Host.Outcome.next (forceChannel_of_ge _ _ h run p _)⟩

end Sys2Proof.Machine
end

section
/-!
PROOFS. The Parameter Store: what a SETP stores and what it is refused for, GETP, the start votes and validation (R151 to R160).
-/

namespace Sys2Proof.Machine

/-! ## The value of a SETP -/

/-- What a SETP sends, read by the kind of its parameter (R152, R167). -/
def Domain.sent (d : Domain) (first second : Word) : Int × Int :=
  match d with
  | .num _ _ | .oneOf _ | .condSet => (first.toNat, 0)
  | .temp _ _ => (first.toInt, 0)
  | .convPair => (first.toNat, second.toInt)
  | .mapPair => (first.toNat, second.toNat)
  | .condExpect => ((first.toNat % 32 : Nat), 0)

/-- What is sent, brought into its range (R152). -/
def Domain.ranged (d : Domain) (v : Int × Int) : Int × Int :=
  match d with
  | .num lo hi => (max (lo : Int) (min (hi : Int) v.1), 0)
  | .temp lo hi => (max lo (min hi v.1), 0)
  | .convPair => (max 0 (min 4095 v.1), max (-400) (min 1500 v.2))
  | .mapPair => (max 0 (min 2400 v.1), max 0 (min 1000 v.2))
  | .oneOf _ | .condSet | .condExpect => v

/-- A value outside a list, or a condition set with a bit above 4 (R152). -/
def Domain.refuses (d : Domain) (first : Word) : Bool :=
  match d with
  | .oneOf vals => !vals.contains first.toNat
  | .condSet => decide (32 ≤ first.toNat)
  | .num _ _ | .temp _ _ | .convPair | .mapPair | .condExpect => false

theorem bne_eq_decide_pair {a b : Int} (c : Int) : (a != b) = decide ((a, c) ≠ (b, c)) := by
  by_cases same : a = b <;> simp [same]

theorem bne_or_bne_eq_decide {a b c d : Int} : (a != b || c != d) = decide ((a, c) ≠ (b, d)) := by
  by_cases same : a = b
  · subst same
    by_cases same' : c = d <;> simp [same']
  · simp [same]

theorem Domain.judge_eq (d : Domain) (first second : Word) : d.judge first second =
    if d.refuses first then none
    else some { value := (d.ranged (d.sent first second)).1, second := (d.ranged (d.sent first second)).2
                clamped := decide (d.ranged (d.sent first second) ≠ d.sent first second) } := by
  cases d with
  | num lo hi => exact congrArg (fun b => some (Judged.mk _ _ b)) (bne_eq_decide_pair 0)
  | temp lo hi => exact congrArg (fun b => some (Judged.mk _ _ b)) (bne_eq_decide_pair 0)
  | convPair => exact congrArg (fun b => some (Judged.mk _ _ b)) bne_or_bne_eq_decide
  | mapPair => exact congrArg (fun b => some (Judged.mk _ _ b)) bne_or_bne_eq_decide
  | oneOf vals => simp [Domain.judge, Domain.refuses, Domain.ranged, Domain.sent]
  | condSet =>
    by_cases small : first.toNat < 32
    · simp [Domain.judge, Domain.refuses, Domain.ranged, Domain.sent, small]
    · simp [Domain.judge, Domain.refuses, small, Nat.le_of_not_lt small]
  | condExpect => simp [Domain.judge, Domain.refuses, Domain.ranged, Domain.sent]

/-- Settles O43. -/
theorem setpValuesAreBroughtIntoRange : Obligations.SetpValuesAreBroughtIntoRange := by
  intro q first second s sent ranged value refused
  have judge : q.row.domain.judge first second =
      if refused then none else some { value := ranged.1, second := ranged.2, clamped := decide (ranged ≠ sent) } :=
    q.row.domain.judge_eq first second
  rw [State.judgeWrite, judge]
  cases refusal : refused
  · change (if q = .compMin ∧ (s.param .compMax).written = true ∧ s.int .compMax < ranged.1 then
        some (Judged.mk (s.int .compMax) ranged.2 true)
      else some (Judged.mk ranged.1 ranged.2 (decide (ranged ≠ sent)))) =
      some { value := value, second := ranged.2, clamped := decide ((value, ranged.2) ≠ sent) }
    by_cases capped : q = .compMin ∧ (s.param .compMax).written = true
    · have cap : value = min ranged.1 (s.int .compMax) := if_pos capped
      by_cases above : s.int .compMax < ranged.1
      · have lowered : value = s.int .compMax := by rw [cap]; omega
        have moved : (value, ranged.2) ≠ sent := fun same => by
          obtain ⟨rfl, -⟩ := capped
          have number : ranged.1 = max (0 : Int) (min (120 : Int) first.toNat) := rfl
          have raw : (value : Int) = first.toNat := congrArg Prod.fst same
          omega
        rw [if_pos ⟨capped.1, capped.2, above⟩, decide_eq_true moved, lowered]
      · have kept : value = ranged.1 := by rw [cap]; omega
        rw [if_neg fun all => above all.2.2, kept]
    · have kept : value = ranged.1 := if_neg capped
      rw [if_neg fun all => capped ⟨all.1, all.2.1⟩, kept]
  · rfl

end Sys2Proof.Machine
end

section
/-!
PROOFS. Validation (R158): the checks of every parameter, and the lowest id that fails one.
-/

namespace Sys2Proof.Machine

/-! ## Breaks of an order -/

/-- The first place, counted from j, whose entry does not follow the one before it. -/
def firstBreak {α : Type} (ok : α → α → Bool) (j : Nat) : List α → Option Nat
  | a :: b :: rest => if ok a b then firstBreak ok (j + 1) (b :: rest) else some (j + 1)
  | [_] => none
  | [] => none

theorem firstXBreak_eq (j : Nat) (l : List Int) : firstXBreak j l = firstBreak (fun a b => decide (a < b)) j l := by
  induction l generalizing j with
  | nil => rfl
  | cons a l ih =>
    cases l with
    | nil => rfl
    | cons b rest => rw [firstXBreak, firstBreak, ih (j + 1)]; simp only [decide_eq_true_eq]

/-- A conversion point follows another (R158). -/
def convFollows (up : Bool) (a b : Int × Int) : Bool := decide (a.1 < b.1) && continues up a.2 b.2

theorem firstConvBreak_eq (up : Bool) (j : Nat) (l : List (Int × Int)) : firstConvBreak up j l = firstBreak (convFollows up) j l := by
  induction l generalizing j with
  | nil => rfl
  | cons a l ih =>
    cases l with
    | nil => rfl
    | cons b rest => rw [firstConvBreak, firstBreak, ih (j + 1)]; simp only [convFollows, Bool.and_eq_true, decide_eq_true_eq]

section
variable {α : Type} {ok : α → α → Bool}

theorem firstBreak_sound {l : List α} {j k : Nat} (h : firstBreak ok j l = some k) :
    ∃ (i : Nat) (within : i + 1 < l.length), k = j + i + 1 ∧ ok l[i] l[i + 1] = false := by
  induction l generalizing j with
  | nil => exact nomatch h
  | cons a l ih =>
    cases l with
    | nil => exact nomatch h
    | cons b rest =>
      rw [firstBreak] at h
      by_cases follows : ok a b = true
      · rw [if_pos follows] at h
        obtain ⟨i, within, place, breaks⟩ := ih h
        exact ⟨i + 1, Nat.succ_lt_succ within, by omega, breaks⟩
      · rw [if_neg follows] at h
        exact ⟨0, by simp, (Option.some.inj h).symm, Bool.not_eq_true _ ▸ follows⟩

theorem firstBreak_of_first {l : List α} {j i : Nat} (within : i + 1 < l.length) (breaks : ok l[i] l[i + 1] = false)
    (before : ∀ m (less : m < i), ok l[m] l[m + 1] = true) : firstBreak ok j l = some (j + i + 1) := by
  induction l generalizing j i with
  | nil => exact nomatch within
  | cons a l ih =>
    cases l with
    | nil => exact absurd within (by simp)
    | cons b rest =>
      rw [firstBreak]
      cases i with
      | zero => exact if_neg (by simpa using breaks)
      | succ i =>
        have follows : ok a b = true := before 0 (Nat.succ_pos i)
        rw [if_pos follows, ih (Nat.lt_of_succ_lt_succ within) breaks fun m less => before (m + 1) (Nat.succ_lt_succ less)]
        exact congrArg some (by omega)

variable {n : Nat} {x : Fin n → α} {i : Fin n}

/-- A point of a relation breaks its order: it does not follow the point before it. -/
def Breaks (ok : α → α → Bool) (x : Fin n → α) (i : Fin n) : Prop := ∃ h : Fin n, h.val + 1 = i.val ∧ ok (x h) (x i) = false

theorem breaks_of_firstBreak (h : firstBreak ok 0 ((List.finRange n).map x) = some i.val) : Breaks ok x i := by
  obtain ⟨k, within, place, breaks⟩ := firstBreak_sound h
  have size : k + 1 < n := by simpa using within
  have here : i = ⟨k + 1, size⟩ := Fin.ext (by simpa using place)
  subst here
  exact ⟨⟨k, by omega⟩, rfl, by simpa using breaks⟩

theorem firstBreak_of_breaks (here : Breaks ok x i) (before : ∀ m, m < i → ¬ Breaks ok x m) :
    firstBreak ok 0 ((List.finRange n).map x) = some i.val := by
  obtain ⟨h, next, breaks⟩ := here
  have size : h.val + 1 < n := by omega
  have place : i = ⟨h.val + 1, size⟩ := Fin.ext next.symm
  subst place
  have first := firstBreak_of_first (ok := ok) (l := (List.finRange n).map x) (j := 0) (i := h.val) (by simpa using size)
    (by simpa using breaks) fun m less => by
      have follows := before ⟨m + 1, by omega⟩ (Nat.succ_lt_succ less)
      by_contra broken
      exact follows ⟨⟨m, by omega⟩, rfl, by simpa using broken⟩
  rw [first]
  exact congrArg some (by omega)

end

/-! ## The checks of validation -/

section
variable (s : State)

/-- A point of a map whose x is not above the one before it, all points written (R158). -/
def State.mapPointBreaks (point : Fin 4 → Param) (i : Fin 4) : Bool :=
  decide ((∀ k, (s.param (point k)).written = true) ∧
    ∃ h : Fin 4, h.val + 1 = i.val ∧ (s.param (point i)).value ≤ (s.param (point h)).value)

/-- A conversion point out of order with the one before it, all points written (R158). -/
def State.convPointBreaks (i : Fin 8) : Bool :=
  decide ((∀ k, (s.param (.convPt k)).written = true) ∧ ∃ h : Fin 8, h.val + 1 = i.val ∧
    ¬ ((s.param (.convPt h)).value < (s.param (.convPt i)).value ∧
      if (s.param (.convPt 0)).second < (s.param (.convPt 1)).second then
        (s.param (.convPt h)).second < (s.param (.convPt i)).second
      else (s.param (.convPt i)).second < (s.param (.convPt h)).second))

/-- The relation a parameter's id reports, whatever the ids below it show (R158). -/
def State.relationAt (q : Param) : Option FaultReason :=
  match q with
  | .high z =>
    if (s.param (.low z)).written = true ∧
        (s.param (.high z)).value ≤ (s.param (.low z)).value + 2 * (s.param (.hyst z)).value then some .zoneBands
    else none
  | .convPt i => if s.convPointBreaks i then some .convOrder else none
  | .compMap i => if s.mapPointBreaks .compMap i then some .mapOrder else none
  | .fanMap i => if s.mapPointBreaks .fanMap i then some .mapOrder else none
  | .pumpMap l i => if s.mapPointBreaks (.pumpMap l) i then some .mapOrder else none
  | .trDerate => if (s.param .trCutoff).value ≤ (s.param .trDerate).value then some .compTemps else none
  | _ => none

/-- The check of a parameter's own id (R158). -/
def State.faultAt (q : Param) : Option FaultReason :=
  if q.row.default = none ∧ (s.param q).written = false then some .unwritten else s.relationAt q

theorem State.mapBreak_eq (point : Fin 4 → Param) :
    s.mapBreak point = firstBreak (fun a b => decide (a < b)) 0 ((List.finRange 4).map fun i => (s.param (point i)).value) :=
  firstXBreak_eq 0 _

theorem State.convBreak_eq : s.convBreak =
    firstBreak (convFollows (decide ((s.param (.convPt 0)).second < (s.param (.convPt 1)).second))) 0
      ((List.finRange 8).map fun i => ((s.param (.convPt i)).value, (s.param (.convPt i)).second)) :=
  firstConvBreak_eq _ 0 _

theorem State.mapWritten_iff (point : Fin 4 → Param) : s.mapWritten point = true ↔ ∀ k, (s.param (point k)).written = true := by
  rw [State.mapWritten, List.all_eq_true]
  exact ⟨fun h k => h k (by revert k; decide), fun h k _ => h k⟩

theorem State.convWritten_iff : s.convWritten = true ↔ ∀ k, (s.param (.convPt k)).written = true := by
  rw [State.convWritten, List.all_eq_true]
  exact ⟨fun h k => h k (by revert k; decide), fun h k _ => h k⟩

theorem State.mapPointBreaks_iff (point : Fin 4 → Param) (i : Fin 4) : s.mapPointBreaks point i = true ↔
    s.mapWritten point = true ∧ Breaks (fun a b : Int => decide (a < b)) (fun i => (s.param (point i)).value) i := by
  rw [State.mapPointBreaks, decide_eq_true_iff, State.mapWritten_iff]
  simp only [Breaks, decide_eq_false_iff_not, not_lt]

theorem State.convPointBreaks_iff (i : Fin 8) : s.convPointBreaks i = true ↔
    s.convWritten = true ∧ Breaks (convFollows (decide ((s.param (.convPt 0)).second < (s.param (.convPt 1)).second)))
      (fun i => ((s.param (.convPt i)).value, (s.param (.convPt i)).second)) i := by
  rw [State.convPointBreaks, decide_eq_true_iff, State.convWritten_iff]
  refine and_congr_right fun _ => exists_congr fun h => and_congr_right fun _ => ?_
  rw [← Bool.not_eq_true, convFollows, Bool.and_eq_true, decide_eq_true_iff, continues]
  simp only [decide_eq_true_eq]
  split <;> simp

variable {s}

/-- What the model reports of a map's point breaks there; and the first point that breaks is reported. -/
theorem State.mapFails_sound {point : Fin 4 → Param} {i : Fin 4} (h : s.mapFails point i = true) : s.mapPointBreaks point i = true := by
  rw [State.mapFails, Bool.and_eq_true, beq_iff_eq, State.mapBreak_eq] at h
  exact (s.mapPointBreaks_iff point i).mpr ⟨h.1, breaks_of_firstBreak h.2⟩

theorem State.mapFails_of_first {point : Fin 4 → Param} {i : Fin 4} (here : s.mapPointBreaks point i = true)
    (before : ∀ m, m < i → s.mapPointBreaks point m = false) : s.mapFails point i = true := by
  obtain ⟨written, breaks⟩ := (s.mapPointBreaks_iff point i).mp here
  rw [State.mapFails, Bool.and_eq_true, beq_iff_eq, State.mapBreak_eq]
  refine ⟨written, firstBreak_of_breaks breaks fun m less broken => ?_⟩
  exact absurd ((s.mapPointBreaks_iff point m).mpr ⟨written, broken⟩) (by simp [before m less])

theorem State.convFails_sound {i : Fin 8} (h : (s.convWritten && s.convBreak == some i.val) = true) : s.convPointBreaks i = true := by
  rw [Bool.and_eq_true, beq_iff_eq, State.convBreak_eq] at h
  exact (s.convPointBreaks_iff i).mpr ⟨h.1, breaks_of_firstBreak h.2⟩

theorem State.convFails_of_first {i : Fin 8} (here : s.convPointBreaks i = true)
    (before : ∀ m, m < i → s.convPointBreaks m = false) : (s.convWritten && s.convBreak == some i.val) = true := by
  obtain ⟨written, breaks⟩ := (s.convPointBreaks_iff i).mp here
  rw [Bool.and_eq_true, beq_iff_eq, State.convBreak_eq]
  refine ⟨written, firstBreak_of_breaks breaks fun m less broken => ?_⟩
  exact absurd ((s.convPointBreaks_iff m).mpr ⟨written, broken⟩) (by simp [before m less])

theorem if_some_imp {α : Type} {a b : Prop} [Decidable a] [Decidable b] {f r : α} (imp : a → b)
    (h : (if a then some f else none) = some r) : (if b then some f else none) = some r := by
  by_cases holds : a
  · rwa [if_pos holds, ← if_pos (c := b) (t := some f) (e := none) (imp holds)] at h
  · rw [if_neg holds] at h
    exact nomatch h

theorem State.failure_eq (q : Param) : s.failure q =
    if q.row.default = none ∧ (s.param q).written = false then some .unwritten else s.relationFailure q := by
  unfold State.failure Param.required
  simp only [Option.isNone_iff_eq_none]

/-- A failing id fails its own check. -/
theorem State.faultAt_of_failure {q : Param} {r : FaultReason} (h : s.failure q = some r) : s.faultAt q = some r := by
  rw [State.failure_eq] at h
  rw [State.faultAt]
  by_cases unwritten : q.row.default = none ∧ (s.param q).written = false
  · rwa [if_pos unwritten] at h ⊢
  rw [if_neg unwritten] at h ⊢
  cases q
  case high z => exact if_some_imp (fun all => ⟨all.2.1, all.2.2⟩) h
  case convPt i => exact if_some_imp State.convFails_sound h
  case compMap i => exact if_some_imp State.mapFails_sound h
  case fanMap i => exact if_some_imp State.mapFails_sound h
  case pumpMap l i => exact if_some_imp State.mapFails_sound h
  case trDerate => exact h
  all_goals exact nomatch h

/-- A point of a relation is not reported while a point below it fails. -/
theorem State.relationAt_of_faultAt {q : Param} (h : s.faultAt q = none) : s.relationAt q = none := by
  rw [State.faultAt] at h
  split at h
  · exact nomatch h
  · exact h

theorem ne_of_if_none {α : Type} {b : Bool} {f : α} (h : (if b then some f else none) = none) : b = false := by
  cases b
  · rfl
  · exact nomatch h

/-- The lowest id that fails its own check is a failing id. -/
theorem State.failure_of_faultAt {q : Param} {r : FaultReason} (h : s.faultAt q = some r)
    (before : ∀ p : Param, p.id < q.id → s.faultAt p = none) : s.failure q = some r := by
  have sound (p : Param) (less : p.id < q.id) : s.relationAt p = none := State.relationAt_of_faultAt (before p less)
  rw [State.failure_eq]
  rw [State.faultAt] at h
  by_cases unwritten : q.row.default = none ∧ (s.param q).written = false
  · rwa [if_pos unwritten] at h ⊢
  rw [if_neg unwritten] at h ⊢
  cases q
  case high z =>
    have written : (s.param (.high z)).written = true := by simpa [Param.row] using unwritten
    exact if_some_imp (fun all => ⟨written, all.1, all.2⟩) h
  case convPt i =>
    exact if_some_imp (fun here => State.convFails_of_first here fun m less =>
      ne_of_if_none (sound (.convPt m) (Nat.add_lt_add_left less _))) h
  case compMap i =>
    exact if_some_imp (fun here => State.mapFails_of_first here fun m less =>
      ne_of_if_none (sound (.compMap m) (Nat.add_lt_add_left less _))) h
  case fanMap i =>
    exact if_some_imp (fun here => State.mapFails_of_first here fun m less =>
      ne_of_if_none (sound (.fanMap m) (Nat.add_lt_add_left less _))) h
  case pumpMap l i =>
    exact if_some_imp (fun here => State.mapFails_of_first here fun m less =>
      ne_of_if_none (sound (.pumpMap l m) (Nat.add_lt_add_left less _))) h
  case trDerate => exact h
  all_goals exact nomatch h

/-- Where some id fails its own check, one fails validation. -/
theorem State.exists_failure {q : Param} (h : s.faultAt q ≠ none) : ∃ p, s.failure p ≠ none := by
  induction size : q.id using Nat.strong_induction_on generalizing q with
  | _ n ih =>
    subst size
    by_cases below : ∃ p : Param, p.id < q.id ∧ s.faultAt p ≠ none
    · obtain ⟨p, less, fails⟩ := below
      exact ih p.id less fails rfl
    · push Not at below
      obtain ⟨r, fault⟩ := Option.ne_none_iff_exists'.mp h
      exact ⟨q, by simp [State.failure_of_faultAt fault below]⟩

/-! ## The lowest failing id -/

theorem mem_allParams (q : Param) : q ∈ allParams := List.mem_of_getElem? (allParams_place q)

/-- The ids of the table: those of the shared parameters, and of the three zones' blocks (R149). -/
theorem allParams_ids : allParams.map Param.id =
    List.range' 0x01 48 ++ (List.range' 0x40 21 ++ (List.range' 0x60 23 ++ List.range' 0x80 8)) := rfl

theorem allParams_ascending : allParams.Pairwise fun p q => p.id < q.id := by
  have ids : (allParams.map Param.id).Pairwise (· < ·) := by
    rw [allParams_ids]
    simp only [List.pairwise_append, List.mem_append, List.mem_range'_1]
    refine ⟨List.pairwise_lt_range', ⟨List.pairwise_lt_range', ⟨List.pairwise_lt_range', List.pairwise_lt_range', ?_⟩, ?_⟩, ?_⟩ <;> omega
  exact List.pairwise_map.mp ids

theorem State.lowestFailure_none_iff : s.lowestFailure = none ↔ ∀ q, s.failure q = none := by
  rw [State.lowestFailure, List.findSome?_eq_none_iff]
  exact ⟨fun h q => Option.map_eq_none_iff.mp (h q (mem_allParams q)), fun h q _ => Option.map_eq_none_iff.mpr (h q)⟩

theorem State.lowestFailure_of_first {q : Param} {r : FaultReason} (fails : s.failure q = some r)
    (before : ∀ p : Param, p.id < q.id → s.failure p = none) : s.lowestFailure = some (q.id, r) := by
  obtain ⟨below, above, split⟩ := List.append_of_mem (mem_allParams q)
  have ascending := allParams_ascending
  rw [split] at ascending
  rw [State.lowestFailure, List.findSome?_eq_some_iff]
  refine ⟨below, q, above, split, by simp [fails], fun p mem => ?_⟩
  have less := (List.pairwise_append.mp ascending).2.2 p mem q List.mem_cons_self
  exact Option.map_eq_none_iff.mpr (before p less)

/-- Settles O46. -/
theorem validationFailsAtTheLowestId : Obligations.ValidationFailsAtTheLowestId := by
  intro s written x y mapBreaks convBreaks fails
  have check : fails = s.faultAt := rfl
  rw [check]
  refine ⟨?_, fun q reason fault before => ?_⟩
  · rw [State.lowestFailure_none_iff]
    refine ⟨fun none q => ?_, fun none q => ?_⟩
    · by_contra fault
      obtain ⟨p, fails⟩ := State.exists_failure fault
      exact fails (none p)
    · by_contra fails
      obtain ⟨r, failure⟩ := Option.ne_none_iff_exists'.mp fails
      exact absurd (State.faultAt_of_failure failure) (by simp [none q])
  · have lowest : s.lowestFailure = some (q.id, reason) :=
      State.lowestFailure_of_first (State.failure_of_faultAt fault before) fun p less => by
        by_contra fails
        obtain ⟨r, failure⟩ := Option.ne_none_iff_exists'.mp fails
        exact absurd (State.faultAt_of_failure failure) (by simp [before p less])
    rw [State.validate, lowest]
    rfl

end

end Sys2Proof.Machine
end

section
/-!
PROOFS. SETP and GETP as commands, START and UNSTART (R151, R154 to R157).
-/

namespace Sys2Proof.Machine

section
variable {s t : State}

/-! ## SETP refused, and GETP -/

theorem State.judgeWrite_congr (params : t.params = s.params) (q : Param) (first second : Word) :
    t.judgeWrite q first second = s.judgeWrite q first second := by
  simp only [State.judgeWrite, State.param_congr params, State.int_congr params]

theorem State.paramObject_congr (params : t.params = s.params) (q : Param) : t.paramObject q = s.paramObject q := by
  simp only [State.paramObject, State.param_congr params]

theorem ofId_of_id {q : Param} {n : Nat} (id : q.id = n) : Param.ofId n = some q := id ▸ ofId_id q

theorem ofId_of_unknown {n : Nat} (unknown : ∀ q : Param, q.id ≠ n) : Param.ofId n = none :=
  List.find?_eq_none.mpr fun q _ => by simpa using unknown q

theorem setpCommand_unknown {id : Byte} (unknown : Param.ofId id.toNat = none) (p : Port) (first second : Word) :
    setpCommand p id first second s = ⟨s, .badArg, []⟩ := by
  rw [setpCommand, unknown]

theorem setpCommand_known {id : Byte} {q : Param} (known : Param.ofId id.toNat = some q) (p : Port) (first second : Word) :
    setpCommand p id first second s = s.setKnown p q first second := by
  rw [setpCommand, known]

theorem getpCommand_unknown {id : Byte} (unknown : Param.ofId id.toNat = none) : getpCommand id s = ⟨s, .badArg, []⟩ := by
  rw [getpCommand, unknown]

theorem getpCommand_known {id : Byte} {q : Param} (known : Param.ofId id.toNat = some q) :
    getpCommand id s = ⟨s, .ok, s.paramObject q⟩ := by
  rw [getpCommand, known]

/-- The status of a SETP that fails a check of R151. -/
def State.setVerdict (s : State) (p : Port) (q : Param) (first second : Word) : Option Status :=
  if q.owner ≠ none ∧ q.owner ≠ some (portZone p) then some .notYours
  else if s.running = true ∧ q.row.live = false then some .locked
  else if s.judgeWrite q first second = none then some .badArg
  else none

theorem State.setVerdict_congr (params : t.params = s.params) (run : t.running = s.running) (p : Port) (q : Param)
    (first second : Word) : t.setVerdict p q first second = s.setVerdict p q first second := by
  rw [State.setVerdict, State.judgeWrite_congr params, run]
  rfl

theorem State.setKnown_refused {p : Port} {q : Param} {first second : Word} {status : Status}
    (verdict : s.setVerdict p q first second = some status) : s.setKnown p q first second = ⟨s, status, s.paramObject q⟩ := by
  rw [State.setVerdict] at verdict
  have owned : (q.owner.isSome = true ∧ q.owner ≠ some (portZone p)) ↔ (q.owner ≠ none ∧ q.owner ≠ some (portZone p)) :=
    and_congr_left' Option.isSome_iff_ne_none
  rw [State.setKnown]
  by_cases foreign : q.owner ≠ none ∧ q.owner ≠ some (portZone p)
  · rw [if_pos foreign] at verdict
    rw [if_pos (owned.mpr foreign), Option.some.inj verdict]
  rw [if_neg foreign] at verdict
  rw [if_neg (mt owned.mp foreign)]
  by_cases locked : s.running = true ∧ q.row.live = false
  · rw [if_pos locked] at verdict
    rw [if_pos locked, Option.some.inj verdict]
  rw [if_neg locked] at verdict ⊢
  by_cases judged : s.judgeWrite q first second = none
  · rw [if_pos judged] at verdict
    rw [judged, ← Option.some.inj verdict]
  · rw [if_neg judged] at verdict
    exact nomatch verdict

/-- Settles O42. -/
theorem setpRefusedAndGetpOnlyAnswer : Obligations.SetpRefusedAndGetpOnlyAnswer := by
  intro p extra id first second s t answer verdict
  have params : t.params = s.params := by simp [t]
  have run : t.running = s.running := State.running_congr (by simp [t])
  have setp : exec (.setp p extra id first second) s = .next ((setpCommand p id first second t).staged p 0x07#8) := rfl
  have getp : exec (.getp p extra id) s = .next ((getpCommand id t).staged p 0x08#8) := rfl
  refine ⟨fun unknown => ?_, fun q known => ?_⟩
  · rw [setp, getp, setpCommand_unknown (ofId_of_unknown unknown), getpCommand_unknown (ofId_of_unknown unknown)]
    exact ⟨rfl, rfl⟩
  · rw [setp, getp, getpCommand_known (ofId_of_id known), State.paramObject_congr params]
    refine ⟨rfl, fun status refused => ?_⟩
    have verdict : t.setVerdict p q first second = some status := (State.setVerdict_congr params run ..).trans refused
    rw [setpCommand_known (ofId_of_id known), State.setKnown_refused verdict, State.paramObject_congr params]
    rfl

/-! ## START and UNSTART -/

/-- The SETUP object, byte for byte (R161). -/
theorem State.setupObject_eq (s : State) : s.setupObject =
    (if s.running then 1#8 else 0#8) :: ([Port.M, .B, .C].map fun q => if s.startVote q then 1#8 else 0#8) ++
      [BitVec.ofNat 8 s.setup.reason.code, BitVec.ofNat 8 s.setup.faultId] := by
  have state : BitVec.ofNat 8 s.setup.state.code = if s.running then 1#8 else 0#8 := by
    rw [State.running]
    cases s.setup.state <;> rfl
  rw [← state]
  rfl

/-- Settles O45. -/
theorem startVotesAreKept : Obligations.StartVotesAreKept := by
  intro p extra s t vote third answer
  have setup : t.setup = s.setup := by simp [t]
  have run : t.running = s.running := State.running_congr (congrArg _ setup)
  have stands (q : Port) : t.startVote q = s.startVote q := State.startVote_congr (congrArg _ setup) q
  have voted (v : Bool) : t.setVote p v = vote v := by rw [State.setVote, setup]
  have answered (u : State) (echo : Byte) : Host.Outcome.next (Answer.staged ⟨u, .ok, u.setupObject⟩ p echo) = answer u echo := by
    rw [Answer.staged, State.setupObject_eq]
  have start : exec (.start p extra) s =
      answer (if t.running = true ∨ t.startVote p = true then t else t.addVote p) 0x09#8 := answered _ _
  have complete : ((vote true).startVote .M && (vote true).startVote .B && (vote true).startVote .C) = true ↔ third := by
    have after (q : Port) : (vote true).startVote q = true ↔ (q ≠ p → s.startVote q = true) := by
      rw [← voted, State.startVote_setVote, stands]
      by_cases own : q = p <;> simp [own]
    rw [Bool.and_eq_true, Bool.and_eq_true, after, after, after]
    exact ⟨fun all q => by cases q; exacts [all.1.1, all.1.2, all.2], fun all => ⟨⟨all .M, all .B⟩, all .C⟩⟩
  refine ⟨?_, fun idle => ?_, fun off unvoted notThird => ?_, fun off unvoted isThird => ?_⟩
  · change Host.Outcome.next (Answer.staged ⟨(if t.running then t else t.setVote p false), .ok,
      (if t.running then t else t.setVote p false).setupObject⟩ p 0x0A#8) = _
    rw [answered, run, voted]
  · rw [start, run, stands, if_pos idle]
  · rw [start, run, stands, if_neg (by simp [off, unvoted]), State.addVote, voted]
    exact congrArg (answer · 0x09#8) (if_neg (mt complete.mp notThird))
  · rw [start, run, stands, if_neg (by simp [off, unvoted]), State.addVote, voted]
    exact congrArg (answer · 0x09#8) (if_pos (complete.mpr isThird))

end

end Sys2Proof.Machine
end

section
/-!
PROOFS. A taken SETP: what it stores and, in SETUP, what of the other blocks it returns to its start (R90, R107, R117, R150 to R157).
-/

namespace Sys2Proof.Machine

section
variable {s t : State}

/-! ## Conversion points in SETUP -/

theorem State.evaluate_of_unarmed {z : Zone} (unarmed : (s.zone z).guard = .unarmed) : s.evaluate z = s := by
  rw [State.evaluate, unarmed]

theorem State.setZone_self (s : State) (z : Zone) : s.setZone z (s.zone z) = s := by
  rw [State.setZone, State.zone, put_get]

/-- An UNARMED guard judges no conditions. -/
theorem State.withConditions_of_unarmed {z : Zone} (unarmed : (s.zone z).guard = .unarmed) (c : Conditions) :
    s.withConditions z c = s.setZone z { s.zone z with cond := c } := by
  rw [State.withConditions]
  split
  · next same =>
    subst same
    exact (s.setZone_self z).symm
  · exact State.evaluate_of_unarmed (by simpa [State.zone_setZone] using unarmed)

/-- A zone whose temperature has returned to INIT (R117). -/
def ZoneMonitor.blinded (m : ZoneMonitor) : ZoneMonitor := { m with cond := m.cond.atInit }

theorem State.refreshInit_of_unarmed {z : Zone} (unarmed : (s.zone z).guard = .unarmed) (init : (s.temp (zoneTemp z)).tag = .init) :
    s.refreshInit z = s.setZone z (s.zone z).blinded := by
  rw [State.refreshInit, State.withConditions_of_unarmed unarmed, State.usable, init]
  rfl

theorem State.zones_ext (h : ∀ z, t.zone z = s.zone z) : t.zones = s.zones := by
  apply vector_ext_get
  intro i
  fin_cases i
  exacts [h .motor, h .battery, h .cabin]

theorem State.channelsToInit_of_unarmed (unarmed : ∀ z, (s.zone z).guard = .unarmed) : s.channelsToInit =
    { s with temps := mapTable TempChannel.toInit s.temps, zones := mapTable ZoneMonitor.blinded s.zones } := by
  let begun : State := { s with temps := mapTable TempChannel.toInit s.temps }
  have step {u : State} {z : Zone} (temps : u.temps = begun.temps) (zone : u.zone z = s.zone z) :
      u.refreshInit z = u.setZone z (s.zone z).blinded := by
    have init : (u.temp (zoneTemp z)).tag = .init := by
      rw [State.temp, temps, get_mapTable]
      rfl
    rw [State.refreshInit_of_unarmed (by rw [zone]; exact unarmed z) init, zone]
  let first := begun.setZone .motor (s.zone .motor).blinded
  let second := first.setZone .battery (s.zone .battery).blinded
  let third := second.setZone .cabin (s.zone .cabin).blinded
  have motor : begun.refreshInit .motor = first := step rfl rfl
  have battery : first.refreshInit .battery = second := step rfl (State.zone_setZone ..)
  have cabin : second.refreshInit .cabin = third := step rfl ((State.zone_setZone ..).trans (State.zone_setZone ..))
  have all : s.channelsToInit = third := by
    change ((begun.refreshInit .motor).refreshInit .battery).refreshInit .cabin = third
    rw [motor, battery, cabin]
  have zone (z : Zone) : third.zone z = (s.zone z).blinded := by
    cases z <;> simp [third, second, first, State.zone_setZone]
  have zones : third.zones = mapTable ZoneMonitor.blinded s.zones :=
    State.zones_ext (s := { s with zones := mapTable ZoneMonitor.blinded s.zones }) fun z =>
      (zone z).trans (get_mapTable ZoneMonitor.blinded ..).symm
  rw [all, ← zones]
  rfl

/-! ## A taken write -/

theorem State.lowerCompMin_eq (p : Port) (q : Param) : s.lowerCompMin p q = { s with params := (s.lowerCompMin p q).params } := by
  rw [State.lowerCompMin]
  split <;> rfl

/-- The parameters after a taken write: the value, and COMP_MIN lowered to a COMP_MAX below it (R150, R153). -/
theorem State.stored_param (p : Port) (q r : Param) (v w : Int) : ((s.storeParam p q v w).lowerCompMin p q).param r =
    if r = q then { value := v, second := w, written := true, writer := some p }
    else if r = .compMin ∧ q = .compMax ∧ v < s.int .compMin then { value := v, second := 0, written := true, writer := some p }
    else s.param r := by
  rw [State.lowerCompMin_param, State.storeParam_param]
  by_cases most : q = .compMax
  · subst most
    have max : (s.storeParam p .compMax v w).int .compMax = v := by rw [State.int, State.storeParam_param, if_pos rfl]
    have min : (s.storeParam p .compMax v w).int .compMin = s.int .compMin := by
      rw [State.int, State.storeParam_param, if_neg (by decide)]
      rfl
    rw [max, min]
    by_cases least : r = .compMin
    · subst least
      simp
    · simp [least]
  · simp [most]

/-! ## What a write reaches in SETUP -/

theorem State.flows_ext (h : ∀ l, t.flow l = s.flow l) : t.flows = s.flows := by
  apply vector_ext_get
  intro i
  fin_cases i
  exacts [h .motor, h .battery]

/-- A flow channel after a write: AVG of its loop clears its average (R107). -/
def FlowChannel.afterWrite (q : Param) (l : Loop) (c : FlowChannel) : FlowChannel :=
  if q = .avg l then { c with accumulator := 0, periods := 0 } else c

/-- What a write of a parameter clears of the averages (R107). -/
theorem State.clearAverages_eq (q : Param) :
    (match q.avgLoop with
      | some l => s.clearAverage l
      | none => s) =
    { s with flows := #v[(s.flow .motor).afterWrite q .motor, (s.flow .battery).afterWrite q .battery] } := by
  by_cases average : ∃ l, q = .avg l
  · obtain ⟨l, rfl⟩ := average
    have flows : (s.clearAverage l).flows = #v[(s.flow .motor).afterWrite (.avg l) .motor, (s.flow .battery).afterWrite (.avg l) .battery] :=
      State.flows_ext (t := s.clearAverage l)
        (s := { s with flows := #v[(s.flow .motor).afterWrite (.avg l) .motor, (s.flow .battery).afterWrite (.avg l) .battery] }) fun k => by
        rw [State.clearAverage, State.flow_setFlow]
        cases l <;> cases k <;> rfl
    rw [← flows]
    rfl
  · have none (l : Loop) : q ≠ .avg l := fun e => average ⟨l, e⟩
    have same (l : Loop) : (s.flow l).afterWrite q l = s.flow l := if_neg (none l)
    have flows : #v[s.flow .motor, s.flow .battery] = s.flows :=
      State.flows_ext (t := { s with flows := #v[s.flow .motor, s.flow .battery] }) fun l => by cases l <;> rfl
    have loop : q.avgLoop = Option.none := by
      cases q
      case avg l => exact absurd rfl (none l)
      all_goals rfl
    rw [loop, same, same, flows]

/-- The part after a write in SETUP, with the start votes cleared (R90, R107, R157). -/
def State.unvoted (s : State) (q : Param) : State :=
  { s with
    setup := { s.setup with votes := Vector.replicate 3 false }
    temps := if q.isConvPt then mapTable TempChannel.toInit s.temps else s.temps
    zones := if q.isConvPt then mapTable ZoneMonitor.blinded s.zones else s.zones
    flows := #v[(s.flow .motor).afterWrite q .motor, (s.flow .battery).afterWrite q .battery] }

theorem State.writeInSetup_eq (unarmed : ∀ z, (s.zone z).guard = .unarmed) (q : Param) : s.writeInSetup q =
    if s.startVote .M || s.startVote .B || s.startVote .C then (s.unvoted q).notifyAll .setup else s.unvoted q := by
  have channels : (if q.isConvPt then s.channelsToInit else s) =
      { s with
        temps := if q.isConvPt then mapTable TempChannel.toInit s.temps else s.temps
        zones := if q.isConvPt then mapTable ZoneMonitor.blinded s.zones else s.zones } := by
    split
    · exact State.channelsToInit_of_unarmed unarmed
    · rfl
  rw [State.writeInSetup, channels]
  exact congrArg State.clearVotes (State.clearAverages_eq q)

/-! ## SETP taken -/

theorem State.setKnown_taken {p : Port} {q : Param} {first second : Word} {j : Judged}
    (owned : q.owner = none ∨ q.owner = some (portZone p)) (live : s.running = true → q.row.live = true)
    (judged : s.judgeWrite q first second = some j) :
    s.setKnown p q first second =
      ⟨s.takeWrite p q j, if j.clamped then .clamped else .ok, (s.takeWrite p q j).paramObject q⟩ := by
  have own : ¬ (q.owner.isSome = true ∧ q.owner ≠ some (portZone p)) := fun foreign => by
    obtain unowned | mine := owned
    · simp [unowned] at foreign
    · exact foreign.2 mine
  have free : ¬ (s.running = true ∧ q.row.live = false) := fun locked => by simp [live locked.1] at locked
  rw [State.setKnown, if_neg own, if_neg free, judged]

/-- Settles O44. -/
theorem setpTakenStoresAndReaches : Obligations.SetpTakenStoresAndReaches := by
  intro p extra id first second q j s ok known owned live judged t
  have params : t.params = s.params := by simp [t]
  have setup : t.setup = s.setup := by simp [t]
  have run : t.running = s.running := State.running_congr (congrArg _ setup)
  have zones : t.zones = s.zones := by simp [t]
  let written := (t.storeParam p q j.value j.second).lowerCompMin p q
  refine ⟨written.params, ?_⟩
  intro stored
  have same : written = stored := State.lowerCompMin_eq p q
  refine ⟨fun r => ?_, ?_⟩
  · have param := t.stored_param p q r j.value j.second
    rw [State.int, State.param_congr params, State.param_congr params] at param
    exact param
  intro conv blinded averaged unvoted after
  have taken : t.takeWrite p q j = after := by
    change (if t.running then written.writeInRun q t.guardAction else written.writeInSetup q) = _
    rw [run, same]
    by_cases on : s.running = true
    · have action : t.guardAction = s.guardAction := funext (State.guardAction_congr params)
      simp only [after, if_pos on, action]
      cases q <;> rfl
    · have unarmed (z : Zone) : (stored.zone z).guard = .unarmed := by
        have here : stored.zone z = s.zone z := congrArg (Vector.get · (zoneIx z)) zones
        rw [here]
        exact (ok.unarmed z).mpr (by simpa using on)
      have votes (x : Port) : stored.startVote x = s.startVote x := State.startVote_congr (congrArg _ setup) x
      have temps : t.temps = s.temps := by simp [t]
      have flow (l : Loop) : t.flow l = s.flow l := congrArg (Vector.get · (loopIx l)) (by simp [t] : t.flows = s.flows)
      have point : q.isConvPt = conv := by cases q <;> rfl
      have cleared : stored.unvoted q = unvoted := by
        change ({ stored with
          setup := { t.setup with votes := Vector.replicate 3 false }
          temps := if q.isConvPt then mapTable TempChannel.toInit t.temps else t.temps
          zones := if q.isConvPt then mapTable ZoneMonitor.blinded t.zones else t.zones
          flows := #v[(t.flow .motor).afterWrite q .motor, (t.flow .battery).afterWrite q .battery] } : State) = _
        rw [setup, temps, zones, flow, flow, point]
        rfl
      rw [State.writeInSetup_eq unarmed, votes, votes, votes, cleared]
      simp only [after, if_neg on]
  have verdict : t.judgeWrite q first second = some j := (State.judgeWrite_congr params ..).trans judged
  have command : setpCommand p id first second t = ⟨after, if j.clamped then .clamped else .ok, after.paramObject q⟩ := by
    rw [setpCommand_known (ofId_of_id known), State.setKnown_taken owned (fun on => live (run ▸ on)) verdict, taken]
  exact congrArg (fun a : Answer => Host.Outcome.next (a.staged p 0x07#8)) command

end

end Sys2Proof.Machine
end

section
/-!
PROOFS. What READ gives: the bytes of every object, the classes and indices that exist, and the two parts (R167, R174, R175).
-/

namespace Sys2Proof.Machine

/-! ## Lengths -/

@[simp] theorem u8_length (n : Nat) : (u8 n).length = 1 := rfl
@[simp] theorem u16_length (n : Nat) : (u16 n).length = 2 := rfl
@[simp] theorem s16_length (v : Int) : (s16 v).length = 2 := rfl
@[simp] theorem flagByte_length (b : Bool) : (flagByte b).length = 1 := rfl
@[simp] theorem noticeBytes_length (n : NoticeSet) : (noticeBytes n).length = 2 := rfl

/-! ## The classes and their indices -/

theorem zoneOfNat_of_lt {i : Nat} (h : i < 3) : ∃ z, zoneOfNat i = some z := by
  interval_cases i <;> exact ⟨_, rfl⟩

theorem zoneOfNat_of_ge {i : Nat} (h : 3 ≤ i) : zoneOfNat i = none := by
  obtain ⟨k, rfl⟩ := Nat.exists_eq_add_of_le' h
  rfl

theorem loopOfNat_of_lt {i : Nat} (h : i < 2) : ∃ l, loopOfNat i = some l := by
  interval_cases i <;> exact ⟨_, rfl⟩

theorem loopOfNat_of_ge {i : Nat} (h : 2 ≤ i) : loopOfNat i = none := by
  obtain ⟨k, rfl⟩ := Nat.exists_eq_add_of_le' h
  rfl

theorem tempOfNat_of_lt {i : Nat} (h : i < 7) : ∃ c, tempOfNat i = some c := by
  interval_cases i <;> exact ⟨_, rfl⟩

theorem tempOfNat_of_ge {i : Nat} (h : 7 ≤ i) : tempOfNat i = none := by
  obtain ⟨k, rfl⟩ := Nat.exists_eq_add_of_le' h
  rfl

/-- How many indices a class has; a class whose objects have no index takes any of the 128 (R174, log 16). -/
def indicesOf (cls : Nat) : Nat :=
  match cls with
  | 0x01 => 15
  | 0x02 => 1
  | 0x03 | 0x04 => 3
  | 0x05 => 4
  | 0x06 | 0x07 | 0x0B | 0x0C | 0x0D => 128
  | 0x08 => 7
  | 0x09 => 2
  | 0x0A => 6
  | _ => 0

section
variable (s : State) (p : Port)

theorem State.ageObject_length : s.ageObject.length = 16 := by
  simp only [State.ageObject, List.length_append, List.length_take, List.length_map, List.length_replicate, u8_length]
  omega

theorem State.resourceObject_length (k : Fin 4) : 9 < (s.resourceObject k).length ∧ (s.resourceObject k).length ≤ 18 := by
  unfold State.resourceObject
  split <;> simp [resourceFields]

/-- The bytes of an object, where there is one: in two parts for AGE, ZONESTATE and RESOURCE alone. -/
def Sized (cls : Nat) (bytes : List Byte) : Prop := (9 < bytes.length ↔ cls = 2 ∨ cls = 4 ∨ cls = 5) ∧ bytes.length ≤ 18

theorem Sized.short {cls : Nat} {bytes : List Byte} (one : cls ≠ 2 ∧ cls ≠ 4 ∧ cls ≠ 5) (h : bytes.length ≤ 9) : Sized cls bytes :=
  ⟨⟨fun long => absurd long (by omega), fun two => by omega⟩, by omega⟩

theorem State.object_of_lt {cls i : Nat} (h : i < indicesOf cls) : ∃ bytes, s.object p cls i = some bytes ∧ Sized cls bytes := by
  have known : cls < 14 := by
    by_contra far
    obtain ⟨k, rfl⟩ := Nat.exists_eq_add_of_le' (Nat.le_of_not_lt far)
    exact absurd h (Nat.not_lt_zero i)
  interval_cases cls
  · -- class 0
    exact absurd h (Nat.not_lt_zero i)
  · -- class 1
    exact ⟨_, dif_pos h, .short (by decide) (Nat.le_refl 9)⟩
  · -- class 2
    obtain rfl : i = 0 := Nat.lt_one_iff.mp h
    exact ⟨_, rfl, by simp [s.ageObject_length], by simp [s.ageObject_length]⟩
  · -- class 3
    obtain ⟨z, zone⟩ := zoneOfNat_of_lt h
    exact ⟨s.zoneObject z, by simp [State.object, zone], .short (by decide) (Nat.le_refl 9)⟩
  · -- class 4
    obtain ⟨z, zone⟩ := zoneOfNat_of_lt h
    have length : (s.zoneStateObject z).length = 12 := rfl
    exact ⟨s.zoneStateObject z, by simp [State.object, zone], by simp [length], by simp [length]⟩
  · -- class 5
    obtain ⟨long, short⟩ := s.resourceObject_length ⟨i, h⟩
    exact ⟨_, dif_pos h, by simp [long], short⟩
  · -- class 6
    exact ⟨_, rfl, .short (by decide) (by simp [State.valveObject])⟩
  · -- class 7
    exact ⟨_, rfl, .short (by decide) (by simp [State.regimeObject])⟩
  · -- class 8
    obtain ⟨c, channel⟩ := tempOfNat_of_lt h
    exact ⟨s.channelObject c, by simp [State.object, channel], .short (by decide) (by simp [State.channelObject])⟩
  · -- class 9
    obtain ⟨l, loop⟩ := loopOfNat_of_lt h
    exact ⟨s.flowObject l, by simp [State.object, loop], .short (by decide) (by simp [State.flowObject])⟩
  · -- class 10
    have byte : (BitVec.ofNat 8 i).toNat < 6 := by
      rw [BitVec.toNat_ofNat]
      exact (Nat.mod_le _ _).trans_lt h
    exact ⟨_, by simp only [State.object, pwmOfByte_of_lt byte]; rfl, .short (by decide) (by simp [State.outputObject])⟩
  · -- class 11
    exact ⟨_, rfl, .short (by decide) (by simp [State.setupObject])⟩
  · -- class 12
    exact ⟨_, rfl, .short (by decide) (by simp [State.resetObject])⟩
  · -- class 13
    exact ⟨_, rfl, .short (by decide) (by simp [State.noticesObject])⟩

theorem State.object_of_ge {cls i : Nat} (small : i < 128) (h : indicesOf cls ≤ i) : s.object p cls i = none := by
  by_cases known : cls < 14
  · interval_cases cls
    · -- class 0
      rfl
    · -- class 1
      exact dif_neg (Nat.not_lt.mpr h)
    · -- class 2
      exact if_neg (Nat.pos_iff_ne_zero.mp h)
    · -- class 3
      simp [State.object, zoneOfNat_of_ge h]
    · -- class 4
      simp [State.object, zoneOfNat_of_ge h]
    · -- class 5
      exact dif_neg (Nat.not_lt.mpr h)
    · -- class 6
      exact absurd small (Nat.not_lt.mpr h)
    · -- class 7
      exact absurd small (Nat.not_lt.mpr h)
    · -- class 8
      simp [State.object, tempOfNat_of_ge h]
    · -- class 9
      simp [State.object, loopOfNat_of_ge h]
    · -- class 10
      have byte : ¬ (BitVec.ofNat 8 i).toNat < 6 := by
        rw [BitVec.toNat_ofNat, Nat.mod_eq_of_lt (by omega)]
        exact Nat.not_lt.mpr h
      simp [State.object, pwmOfByte_of_ge byte]
    · -- class 11
      exact absurd small (Nat.not_lt.mpr h)
    · -- class 12
      exact absurd small (Nat.not_lt.mpr h)
    · -- class 13
      exact absurd small (Nat.not_lt.mpr h)
  · obtain ⟨k, rfl⟩ := Nat.exists_eq_add_of_le' (Nat.le_of_not_lt known)
    rfl

end

/-- Settles O49. -/
theorem readSelectsAPart : Obligations.ReadSelectsAPart := by
  intro p extra cls index s t i answer indices
  have count : indices = indicesOf cls.toNat := rfl
  have read : exec (.read p extra cls index) s = .next ((readCommand p cls index t).staged p 0x0D#8) := rfl
  have small : i < 128 := Nat.mod_lt _ (by decide)
  refine ⟨fun within => ?_, fun beyond => ?_⟩
  · obtain ⟨bytes, object, parts, size⟩ := t.object_of_lt p (count ▸ within)
    refine ⟨bytes, object, ?_, ?_, size⟩
    · rw [read, readCommand, State.readPart, object]
      dsimp only
      by_cases first : index.toNat < 128
      · rw [if_pos first, if_pos first]
        rfl
      · rw [if_neg first, if_neg first]
        by_cases long : 9 < bytes.length
        · rw [if_pos long, if_neg (by omega)]
          rfl
        · rw [if_neg long, if_pos (by omega)]
          rfl
    · rw [parts]
      simp only [← BitVec.toNat_inj]
      rfl
  · rw [read, readCommand, State.readPart, t.object_of_ge p small (count ▸ beyond)]
    rfl

end Sys2Proof.Machine
end

section
/-!
PROOFS. The bytes of every object of READ and of a parameter in a reply (R167, R174).
-/

namespace Sys2Proof.Machine

/-! ## Quantities -/

/-- A quantity of two bytes, most significant first (R167). -/
theorem u16_eq (n : Nat) : u16 n = [BitVec.ofNat 8 (n / 256), BitVec.ofNat 8 n] := by
  have hi : hiByte (BitVec.ofNat 16 n) = BitVec.ofNat 8 (n / 256) := by
    apply BitVec.eq_of_toNat_eq
    simp only [hiByte, BitVec.toNat_setWidth, BitVec.toNat_ushiftRight, BitVec.toNat_ofNat, Nat.shiftRight_eq_div_pow]
    omega
  have lo : loByte (BitVec.ofNat 16 n) = BitVec.ofNat 8 n := by
    apply BitVec.eq_of_toNat_eq
    simp only [loByte, BitVec.toNat_setWidth, BitVec.toNat_ofNat]
    omega
  rw [u16, hi, lo]

/-- A signed quantity in two's complement (R167). -/
theorem s16_eq (v : Int) : s16 v = u16 (v % 65536).toNat := by
  have word : BitVec.ofInt 16 v = BitVec.ofNat 16 (v % 65536).toNat := by
    apply BitVec.eq_of_toNat_eq
    rw [BitVec.toNat_ofInt, BitVec.toNat_ofNat]
    omega
  rw [s16, u16, word]

theorem noticeBytes_eq (n : NoticeSet) : noticeBytes n = u16 n.toNat := by
  have word : n.setWidth 16 = BitVec.ofNat 16 n.toNat := by
    apply BitVec.eq_of_toNat_eq
    rw [BitVec.toNat_setWidth, BitVec.toNat_ofNat]
  rw [noticeBytes, u16, word]

/-! ## Enumerated values: the place in the rule's list -/

theorem DemandState.code_eq (d : DemandState) :
    d.code = ([.free, .waiting, .served, .partly, .starved, .held] : List DemandState).idxOf d := by cases d <;> rfl

theorem Sense.code_eq (x : Sense) : x.code = ([.cool, .heat] : List Sense).idxOf x := by cases x <;> rfl

theorem Tier.code_eq (t : Tier) : t.code = ([.protect, .charge, .drive, .comfort] : List Tier).idxOf t := by cases t <;> rfl

theorem TempTag.code_eq (t : TempTag) :
    t.code = ([.init, .good, .clampedLow, .clampedHigh, .stale, .blind] : List TempTag).idxOf t := by cases t <;> rfl

theorem FlowTag.code_eq (t : FlowTag) : t.code = if t == .good then 1 else 0 := by cases t <;> rfl

theorem Regime.code_eq (r : Regime) :
    r.code = ([.noRegime, .park, .drive, .priming, .charge, .dormant] : List Regime).idxOf r := by cases r <;> rfl

theorem VoteM.code_eq (v : VoteM) : v.code = if v == .drive then 1 else 0 := by cases v <;> rfl

theorem VoteB.code_eq (v : VoteB) : v.code = if v == .charge then 1 else 0 := by cases v <;> rfl

theorem Presence.code_eq (x : Presence) : x.code = if x == .absent then 1 else 0 := by cases x <;> rfl

theorem ValveState.code_eq (x : ValveState) : x.code = ([.settled, .travel, .retryWait, .locked] : List ValveState).idxOf x := by
  cases x <;> rfl

theorem Mode.code_eq (m : Mode) : m.code = ([.separate, .series, .scavenge] : List Mode).idxOf m := by cases m <;> rfl

theorem GuardState.code_eq (g : GuardState) : g.code = ([.unarmed, .armed, .tripped] : List GuardState).idxOf g := by cases g <;> rfl

theorem AllowSource.code_eq (a : AllowSource) : a.code = ([.noAllowance, .safe, .granted] : List AllowSource).idxOf a := by
  cases a <;> rfl

theorem FaultReason.code_eq (r : FaultReason) :
    r.code = ([.noFault, .unwritten, .zoneBands, .convOrder, .mapOrder, .compTemps] : List FaultReason).idxOf r := by cases r <;> rfl

theorem ResetCause.code_eq (c : ResetCause) :
    c.code = BitVec.ofNat 8 (([.powerOn, .resetLine, .supplyDip] : List ResetCause).idxOf c) := by cases c <;> rfl

/-! ## The objects -/

theorem Conditions.matches_eq (c : Conditions) (select expect : Nat) : c.matches select expect =
    ([(0, c.high), (1, c.low), (2, c.stall), (3, c.blind), (4, c.short)] : List (Nat × Bool)).all fun b =>
      !select.testBit b.1 || b.2 == expect.testBit b.1 := by
  simp only [Conditions.matches, condBit, List.all_cons, List.all_nil, Bool.and_true, Bool.and_assoc]

section
variable (s : State)

theorem State.ageObject_getElem {k : Nat} (h : k < 15) : s.ageObject[k + 1]? =
    match s.age[k]? with
    | some i => some (BitVec.ofNat 8 i.val)
    | none => some 0xFF#8 := by
  have drop : s.ageObject[k + 1]? = ((s.age.map fun i => BitVec.ofNat 8 i.val) ++ List.replicate 15 0xFF#8)[k]? := by
    change (((s.age.map fun i => BitVec.ofNat 8 i.val) ++ List.replicate 15 0xFF#8).take 15)[k]? = _
    rw [List.getElem?_take, if_pos h]
  rw [drop]
  by_cases inside : k < s.age.length
  · rw [List.getElem?_append_left (by simpa using inside), List.getElem?_map, List.getElem?_eq_getElem inside]
    rfl
  · rw [List.getElem?_append_right (by simpa using inside), List.getElem?_eq_none (Nat.le_of_not_lt inside), List.length_map,
      List.getElem?_replicate, if_pos (by omega)]

end

/-- Settles O48. -/
theorem objectsCarryTheirFields : Obligations.ObjectsCarryTheirFields := by
  intro p s one two signed flag secs regimes modes temp flow heat granted hit resource value
  have word (n : Nat) : u16 n = two n := u16_eq n
  have signed_eq (v : Int) : s16 v = signed v := (s16_eq v).trans (u16_eq _)
  have flag_eq (b : Bool) : flagByte b = flag b := flagByte_eq b
  have ceil (t : Option Nat) : ceilSeconds t = secs t := by cases t <;> rfl
  have fields (a b : Nat) (g : GrantSet) : resourceFields a b g =
      two a ++ two b ++ two g.compDraw ++ two g.heaterDraw ++ two g.totalDraw ++ two g.allowance ++
        one (([.noAllowance, .safe, .granted] : List AllowSource).idxOf g.source) := by
    rw [resourceFields, word, word, word, word, word, word, AllowSource.code_eq]
    rfl
  have resources (k : Fin 4) (pool total : GrantSet → Nat) (more : List (GrantSet → Nat))
      (none : s.alloc.published = none → s.resourceObject k = List.replicate (13 + 2 * more.length) 0#8)
      (some : ∀ g, s.alloc.published = some g →
        s.resourceObject k = resourceFields (pool g) (total g) g ++ more.flatMap fun f => two (f g)) :
      s.resourceObject k = resource pool total more := by
    simp only [resource]
    cases published : s.alloc.published with
    | none => exact none published
    | some g => rw [some g published, fields]
  refine ⟨fun i => ?_, ⟨s.ageObject, rfl, s.ageObject_length, rfl, fun k => s.ageObject_getElem⟩, fun z => ?_, fun z => ?_, ?_, ?_, ?_,
    ?_, fun i => ?_, fun i => ?_, fun ch => ?_, fun l => ?_, fun c => ?_, fun i => ?_, fun i => ?_, fun i => ?_, fun q => ?_⟩
  · have object : s.object p 0x01 i.val = some (s.demand i).record := dif_pos i.isLt
    rw [object, Demand.record, word, word, ceil, DemandState.code_eq, Sense.code_eq, Tier.code_eq]
    rfl
  · have object : s.object p 0x03 (zoneIx z).val = some (s.zoneObject z) := by cases z <;> rfl
    have temp_eq : zoneTemp z = temp z := by cases z <;> rfl
    have flow_eq : s.zoneFlow z = flow z := by cases z <;> rfl
    have heat_eq : s.zoneRecord z = heat z := by cases z <;> rfl
    have granted_eq : s.zoneLoopTotal z = granted z := by
      unfold State.zoneLoopTotal
      simp only [granted]
      cases s.alloc.published <;> rfl
    rw [object, State.zoneObject, temp_eq, flow_eq, heat_eq, granted_eq, signed_eq, signed_eq, word, word, TempTag.code_eq]
    rfl
  · have object : s.object p 0x04 (zoneIx z).val = some (s.zoneStateObject z) := by cases z <;> rfl
    have heat_eq : s.zoneRecord z = heat z := by cases z <;> rfl
    have hit_eq : s.guardMatches z = hit z := Conditions.matches_eq ..
    rw [object, State.zoneStateObject, heat_eq, hit_eq, GuardState.code_eq]
    simp only [flag_eq]
    rfl
  · refine congrArg some (resources 0 GrantSet.scavPool GrantSet.scavTotal [GrantSet.creditTotal] (fun e => ?_) fun g e => ?_)
    · unfold State.resourceObject
      rw [e]
      rfl
    · unfold State.resourceObject
      rw [e, List.flatMap_singleton, ← word]
  · refine congrArg some (resources 1 GrantSet.radPool GrantSet.radTotal [] (fun e => ?_) fun g e => ?_)
    · unfold State.resourceObject
      rw [e]
      rfl
    · unfold State.resourceObject
      rw [e, List.flatMap_nil, List.append_nil]
  · refine congrArg some (resources 2 GrantSet.compPool GrantSet.compTotal [GrantSet.revoked] (fun e => ?_) fun g e => ?_)
    · unfold State.resourceObject
      rw [e]
      rfl
    · unfold State.resourceObject
      rw [e, List.flatMap_singleton, ← word]
  · refine congrArg some (resources 3 GrantSet.ptcPool GrantSet.ptcTotal [] (fun e => ?_) fun g e => ?_)
    · unfold State.resourceObject
      rw [e]
      rfl
    · unfold State.resourceObject
      rw [e, List.flatMap_nil, List.append_nil]
  · change some s.valveObject = _
    rw [State.valveObject, word, ceil, ValveState.code_eq, Mode.code_eq, Mode.code_eq]
    rfl
  · change some s.regimeObject = _
    rw [State.regimeObject, flag_eq, Regime.code_eq, VoteM.code_eq, VoteB.code_eq, Presence.code_eq, Presence.code_eq, Presence.code_eq]
    rfl
  · have object : s.object p 0x08 (tempIx ch).val = some (s.channelObject ch) := by cases ch <;> rfl
    rw [object, State.channelObject, signed_eq, signed_eq, word, TempTag.code_eq]
    rfl
  · have object : s.object p 0x09 (loopIx l).val = some (s.flowObject l) := by cases l <;> rfl
    rw [object, State.flowObject, word, FlowTag.code_eq]
    rfl
  · have object : s.object p 0x0A (pwmIx c).val = some (s.outputObject c) := by cases c <;> rfl
    rw [object, State.outputObject, word, word, flag_eq]
  · change some s.setupObject = _
    have state : u8 s.setup.state.code = flag s.running := by
      rw [State.running]
      cases s.setup.state <;> rfl
    rw [State.setupObject, state, flag_eq, flag_eq, flag_eq, FaultReason.code_eq]
    rfl
  · change some s.resetObject = _
    rw [State.resetObject, ResetCause.code_eq]
    rfl
  · change some (s.noticesObject p) = _
    rw [State.noticesObject, noticeBytes_eq, noticeBytes_eq, word, word, flag_eq]
  · have writer : u8 (writerCode (s.param q).writer) = one (match (s.param q).writer with
        | none => 0
        | some .M => 1
        | some .B => 2
        | some .C => 3) := rfl
    have bytes : paramValueBytes q (s.param q) = value q := by
      simp only [value, paramValueBytes, word, signed_eq]
      generalize q.row.domain = d
      cases d with
      | num lo hi => cases q <;> rfl
      | _ => rfl
    rw [State.paramObject, bytes, flag_eq, writer]
    rfl

end Sys2Proof.Machine
end

section
/-!
PROOFS. RENEW and DROP (R11, R12): the slots a set names, and what a run of renewals or of freed slots leaves.
-/

namespace Sys2Proof.Machine

/-! ## Slot sets -/

/-- The number of a set of slots, from the slots that are in it. -/
def slotSum (f : Fin 4 → Bool) : Nat := (([0, 1, 2, 3] : List (Fin 4)).map fun k => if f k then 2 ^ k.val else 0).sum

theorem slotSetByte_filter (f : Fin 4 → Bool) :
    slotSetByte (([0, 1, 2, 3] : List (Fin 4)).filter f) = BitVec.ofNat 8 (slotSum f) := by
  simp only [slotSum, List.filter, List.map]
  cases f 0 <;> cases f 1 <;> cases f 2 <;> cases f 3 <;> rfl

theorem slots_filter_nil_iff (f : Fin 4 → Bool) : ([0, 1, 2, 3] : List (Fin 4)).filter f = [] ↔ slotSum f = 0 := by
  simp only [slotSum, List.filter, List.map]
  cases f 0 <;> cases f 1 <;> cases f 2 <;> cases f 3 <;> decide

theorem mem_slots (k : Fin 4) : k ∈ ([0, 1, 2, 3] : List (Fin 4)) := by
  revert k
  decide

section
variable {s : State} {z : Zone}

/-! ## Leases renewed one after another -/

/-- A demand with its lease restarted at its own length (R11). -/
def Demand.renewed (d : Demand) : Demand := { d with lease := some (1000000 * d.leaseLength) }

theorem State.renewSlot_demand (s : State) (i j : Fin 15) :
    (s.renewSlot i).demand j = if j = i then (s.demand i).renewed else s.demand j := by
  rw [State.renewSlot, State.demand_setDemand, seconds_eq]
  rfl

theorem foldl_renewSlot_eq (ks : List (Fin 4)) : ∀ s : State, ks.foldl (fun t k => t.renewSlot (postedIx z k)) s =
    { s with demands := (ks.foldl (fun t k => t.renewSlot (postedIx z k)) s).demands } := by
  induction ks with
  | nil => exact fun _ => rfl
  | cons k ks ih =>
    intro s
    rw [List.foldl_cons, ih]
    rfl

theorem foldl_renewSlot_demand (ks : List (Fin 4)) : ∀ (s : State) (i : Fin 15),
    (ks.foldl (fun t k => t.renewSlot (postedIx z k)) s).demand i =
      if i ∈ ks.map (postedIx z) then (s.demand i).renewed else s.demand i := by
  induction ks with
  | nil => exact fun _ _ => rfl
  | cons k ks ih =>
    intro s i
    rw [List.foldl_cons, ih, State.renewSlot_demand]
    by_cases own : i = postedIx z k
    · subst own
      by_cases again : postedIx z k ∈ ks.map (postedIx z) <;> simp [again, Demand.renewed]
    · simp [own]

/-! ## Slots freed one after another -/

theorem foldl_freeSlot_demand (ks : List (Fin 4)) : ∀ (s : State) (i : Fin 15),
    (ks.foldl (fun t k => t.freeSlot (postedIx z k)) s).demand i =
      if i ∈ ks.map (postedIx z) then Demand.freeSlot else s.demand i := by
  induction ks with
  | nil => exact fun _ _ => rfl
  | cons k ks ih =>
    intro s i
    rw [List.foldl_cons, ih, State.freeSlot_demand]
    by_cases own : i = postedIx z k <;> simp [own]

theorem foldl_freeSlot_eq (ks : List (Fin 4)) (s : State) : ks.foldl (fun t k => t.freeSlot (postedIx z k)) s =
    { s with
      demands := (ks.foldl (fun t k => t.freeSlot (postedIx z k)) s).demands
      age := (ks.foldl (fun t k => t.freeSlot (postedIx z k)) s).age
      regime := (ks.foldl (fun t k => t.freeSlot (postedIx z k)) s).regime } := by
  apply State.eq_of_fields <;> simp

/-- A sound age list is what the standing slots make of any sound list that holds them. -/
theorem State.DemandsOk.age_eq_filter {u : State} (ok : u.DemandsOk) {l : List (Fin 15)} (sub : u.age.Sublist l)
    (once : l.Nodup) : u.age = l.filter fun i => (u.demand i).stands := by
  have kept : u.age.filter (fun i => (u.demand i).stands) = u.age :=
    List.filter_eq_self.mpr fun i mem => (ok.ageExact i).mp mem
  have within : u.age.Sublist (l.filter fun i => (u.demand i).stands) := kept ▸ sub.filter _
  refine within.eq_of_length_le ?_
  refine (List.subperm_of_subset (once.filter _) fun i mem => ?_).length_le
  exact (ok.ageExact i).mpr (by simpa using (List.mem_filter.mp mem).2)

theorem foldl_freeSlot_age (ks : List (Fin 4)) : ∀ s : State, (ks.foldl (fun t k => t.freeSlot (postedIx z k)) s).age.Sublist s.age := by
  induction ks with
  | nil => exact fun s => .refl _
  | cons k ks ih =>
    intro s
    have freed := ih (s.freeSlot (postedIx z k))
    rw [State.freeSlot_age] at freed
    exact freed.trans List.erase_sublist

/-- The dormant timer starts where the last of the freed slots empties the table in PARK (R78). -/
theorem foldl_freeSlot_regime (ks : List (Fin 4)) : ∀ {s : State}, s.RegimeOk → ks ≠ [] → ks.Nodup →
    (∀ k ∈ ks, (s.demand (postedIx z k)).stands = true) →
    (ks.foldl (fun t k => t.freeSlot (postedIx z k)) s).regime =
      { s.regime with
        dormant :=
          if s.regime.regime = .park ∧ (ks.foldl (fun t k => t.freeSlot (postedIx z k)) s).tableEmpty = true then
            some (1000000 * s.num .dormantDelay)
          else s.regime.dormant } := by
  induction ks with
  | nil => exact fun _ some => absurd rfl some
  | cons k ks ih =>
    intro s ok _ once stands
    obtain ⟨absent, once⟩ := List.nodup_cons.mp once
    have stopped := ok.dormant_none (stands k List.mem_cons_self)
    have freed : (s.freeSlot (postedIx z k)).regime =
        { s.regime with
          dormant :=
            if s.regime.regime = .park ∧ (s.freeSlot (postedIx z k)).tableEmpty = true then some (1000000 * s.num .dormantDelay)
            else s.regime.dormant } := by
      have empty : (s.freeSlot (postedIx z k)).tableEmpty = allSlots.all (fun j => j == postedIx z k || !(s.demand j).stands) := by
        rw [State.freeSlot_eq ok (stands k List.mem_cons_self)]
        exact tableEmpty_put_free s (postedIx z k) (s.age.erase (postedIx z k))
      rw [empty, State.freeSlot_eq ok (stands k List.mem_cons_self), stopped, seconds_eq]
    rw [List.foldl_cons]
    cases ks with
    | nil => exact freed
    | cons l ks =>
      have after (m : Fin 4) (mem : m ∈ l :: ks) : ((s.freeSlot (postedIx z k)).demand (postedIx z m)).stands = true := by
        have other : postedIx z m ≠ postedIx z k := fun same => absent ((postedIx_inj.mp same).2 ▸ mem)
        rw [State.freeSlot_demand, if_neg other]
        exact stands m (List.mem_cons_of_mem _ mem)
      have more : (s.freeSlot (postedIx z k)).tableEmpty = false := by
        rw [← Bool.not_eq_true, State.tableEmpty_iff]
        exact fun none => Bool.false_ne_true ((none _).symm.trans (after l List.mem_cons_self))
      have same : (s.freeSlot (postedIx z k)).regime = s.regime := by
        rw [freed, more]
        simp
      rw [ih (ok.freeSlot _) (List.cons_ne_nil _ _) once after, same, State.num_congr (s := s) (by simp)]

/-! ## The commands -/

/-- A slot that a set names and that stands, or does not. -/
def State.namedSlot (s : State) (slots : Byte) (z : Zone) (k : Fin 4) (stands : Bool) : Bool :=
  slots.getLsbD k.val && (s.demand (postedIx z k)).stands == stands

theorem State.standingOf_namedSlots (s : State) (slots : Byte) (z : Zone) :
    s.standingOf z (namedSlots slots) = ([0, 1, 2, 3] : List (Fin 4)).filter fun k => s.namedSlot slots z k true := by
  rw [State.standingOf, namedSlots, List.filter_filter]
  refine congrArg (List.filter · _) (funext fun k => ?_)
  rw [State.namedSlot, beq_true, Bool.and_comm]

theorem State.freeOf_namedSlots (s : State) (slots : Byte) (z : Zone) :
    s.freeOf z (namedSlots slots) = ([0, 1, 2, 3] : List (Fin 4)).filter fun k => s.namedSlot slots z k false := by
  rw [State.freeOf, namedSlots, List.filter_filter]
  refine congrArg (List.filter · _) (funext fun k => ?_)
  rw [State.namedSlot, beq_false, Bool.and_comm]

/-- The reply of RENEW and DROP, its bytes the numbers of the two sets (R11, R12). -/
theorem slotAnswer_eq (u : State) (done free : Fin 4 → Bool) :
    slotAnswer u (([0, 1, 2, 3] : List (Fin 4)).filter done) (([0, 1, 2, 3] : List (Fin 4)).filter free) =
      ⟨u, if slotSum free = 0 then .ok else .noDemand, u8 (slotSum done) ++ u8 (slotSum free)⟩ := by
  rw [slotAnswer, slotSetByte_filter, slotSetByte_filter]
  have status : (if (([0, 1, 2, 3] : List (Fin 4)).filter free).isEmpty = true then Status.ok else .noDemand) =
      if slotSum free = 0 then .ok else .noDemand :=
    if_congr (List.isEmpty_iff.trans (slots_filter_nil_iff free)) rfl rfl
  rw [status]
  rfl

/-- The standing slots that a set names. -/
def State.doneSlots (s : State) (slots : Byte) (z : Zone) : List (Fin 4) :=
  ([0, 1, 2, 3] : List (Fin 4)).filter fun k => s.namedSlot slots z k true

theorem State.mem_doneSlots {slots : Byte} {k : Fin 4} : k ∈ s.doneSlots slots z ↔ s.namedSlot slots z k true = true := by
  rw [State.doneSlots, List.mem_filter]
  exact and_iff_right (mem_slots k)

theorem State.mem_map_doneSlots {slots : Byte} {k : Fin 4} :
    postedIx z k ∈ (s.doneSlots slots z).map (postedIx z) ↔ s.namedSlot slots z k true = true := by
  rw [← State.mem_doneSlots, List.mem_map]
  exact ⟨fun ⟨m, mem, same⟩ => (postedIx_inj.mp same).2 ▸ mem, fun mem => ⟨k, mem, rfl⟩⟩

theorem State.not_mem_map_doneSlots {slots : Byte} {i : Fin 15} (other : ∀ k, i ≠ postedIx z k) :
    i ∉ (s.doneSlots slots z).map (postedIx z) := fun mem => by
  obtain ⟨k, -, rfl⟩ := List.mem_map.mp mem
  exact other k rfl

/-- What refuses a RENEW and a DROP (R11, R12). -/
def State.slotsRefusal (s : State) (slots : Byte) : Option Status :=
  if s.running = false then some .notRunning else if 16 ≤ slots.toNat then some .badArg else none

theorem slots_refused {slots : Byte} {status : Status} (refused : s.slotsRefusal slots = some status) (p : Port) :
    renewCommand p slots s = ⟨s, status, []⟩ ∧ dropCommand p slots s = ⟨s, status, []⟩ := by
  rw [State.slotsRefusal] at refused
  rw [renewCommand, dropCommand, namesBeyond]
  simp only [decide_eq_true_eq]
  by_cases off : s.running = false
  · rw [if_pos off] at refused
    simp only [if_pos off, Option.some.inj refused, and_self]
  rw [if_neg off] at refused
  simp only [if_neg off]
  by_cases beyond : 16 ≤ slots.toNat
  · rw [if_pos beyond] at refused
    simp only [if_pos beyond, Option.some.inj refused, and_self]
  · rw [if_neg beyond] at refused
    exact nomatch refused

theorem slots_taken {slots : Byte} (taken : s.slotsRefusal slots = none) (p : Port) :
    renewCommand p slots s =
      ⟨(s.doneSlots slots (portZone p)).foldl (fun t k => t.renewSlot (postedIx (portZone p) k)) s,
        if slotSum (s.namedSlot slots (portZone p) · false) = 0 then .ok else .noDemand,
        u8 (slotSum (s.namedSlot slots (portZone p) · true)) ++ u8 (slotSum (s.namedSlot slots (portZone p) · false))⟩ ∧
    dropCommand p slots s =
      ⟨(s.doneSlots slots (portZone p)).foldl (fun t k => t.freeSlot (postedIx (portZone p) k)) s,
        if slotSum (s.namedSlot slots (portZone p) · false) = 0 then .ok else .noDemand,
        u8 (slotSum (s.namedSlot slots (portZone p) · true)) ++ u8 (slotSum (s.namedSlot slots (portZone p) · false))⟩ := by
  rw [State.slotsRefusal] at taken
  have on : ¬ s.running = false := fun off => by simp [off] at taken
  have within : ¬ namesBeyond slots = true := fun beyond => by
    rw [namesBeyond, decide_eq_true_eq] at beyond
    simp [on, beyond] at taken
  rw [renewCommand, dropCommand, if_neg on, if_neg on, if_neg within, if_neg within]
  dsimp only
  rw [State.standingOf_namedSlots, State.freeOf_namedSlots, slotAnswer_eq, slotAnswer_eq]
  exact ⟨rfl, rfl⟩

/-- Settles O11. -/
theorem renewAndDropActOnTheNamedSlots : Obligations.RenewAndDropActOnTheNamedSlots := by
  intro p extra slots s ok regime t z named found answered refusal
  have demands : t.demands = s.demands := by simp [t]
  have run : t.running = s.running := State.running_congr (by simp [t])
  have demand (i : Fin 15) : t.demand i = s.demand i := State.demand_congr demands i
  have name (k : Fin 4) (b : Bool) : t.namedSlot slots z k b = named k b := by rw [State.namedSlot, demand]
  have sum (b : Bool) : slotSum (t.namedSlot slots z · b) = found b := congrArg slotSum (funext fun k => name k b)
  have refused : t.slotsRefusal slots = refusal := by rw [State.slotsRefusal, run]
  have renew : exec (.renew p extra slots) s = .next ((renewCommand p slots t).staged p 0x03#8) := rfl
  have drop : exec (.drop p extra slots) s = .next ((dropCommand p slots t).staged p 0x04#8) := rfl
  refine ⟨fun status verdict => ?_, fun verdict => ?_⟩
  · obtain ⟨renewed, dropped⟩ := slots_refused (refused.trans verdict) p
    rw [renew, drop, renewed, dropped, Answer.staged, Answer.staged, packData_nil]
    exact ⟨rfl, rfl⟩
  obtain ⟨renewed, dropped⟩ := slots_taken (refused.trans verdict) p
  rw [sum, sum] at renewed dropped
  have inDone (k : Fin 4) : postedIx z k ∈ (t.doneSlots slots z).map (postedIx z) ↔ named k true = true := by
    rw [State.mem_map_doneSlots, name]
  refine ⟨?_, ?_⟩
  · let r := (t.doneSlots slots z).foldl (fun t k => t.renewSlot (postedIx z k)) t
    have after (i : Fin 15) : r.demand i = _ := foldl_renewSlot_demand (t.doneSlots slots z) t i
    refine ⟨_, renew.trans (by rw [renewed]), ?_, fun k => ?_, fun i other => ?_⟩
    · change r.stage p _ = { t.stage p _ with demands := r.demands }
      rw [show r = { t with demands := r.demands } from foldl_renewSlot_eq _ t]
      rfl
    · refine (after (postedIx z k)).trans ?_
      rw [demand]
      exact if_congr (inDone k) rfl rfl
    · refine (after i).trans ?_
      rw [demand, if_neg (State.not_mem_map_doneSlots other)]
  · let r := (t.doneSlots slots z).foldl (fun t k => t.freeSlot (postedIx z k)) t
    have after (i : Fin 15) : r.demand i = _ := foldl_freeSlot_demand (t.doneSlots slots z) t i
    refine ⟨_, drop.trans (by rw [dropped]), ?_, fun k => ?_, fun i other => ?_, ?_, ?_⟩
    · change r.stage p _ = { t.stage p _ with demands := r.demands, age := r.age, regime := r.regime }
      rw [show r = { t with demands := r.demands, age := r.age, regime := r.regime } from foldl_freeSlot_eq _ t]
      rfl
    · refine (after (postedIx z k)).trans ?_
      rw [demand]
      exact if_congr (inDone k) rfl rfl
    · refine (after i).trans ?_
      rw [demand, if_neg (State.not_mem_map_doneSlots other)]
    · have age : t.age = s.age := by simp [t]
      have sound : r.DemandsOk := foldl_freeSlot_ok (ok.congr demands age)
      exact sound.age_eq_filter (age ▸ foldl_freeSlot_age _ t) ok.ageNodup
    · have empty : t.doneSlots slots z = [] ↔ found true = 0 := (slots_filter_nil_iff _).trans (by rw [sum])
      change r.regime = _
      by_cases idle : found true = 0
      · have none : r = t := by
          change (t.doneSlots slots z).foldl _ t = t
          rw [empty.mpr idle]
          rfl
        rw [none, if_neg fun all => all.1 idle]
      · have stands (k : Fin 4) (mem : k ∈ t.doneSlots slots z) : (t.demand (postedIx z k)).stands = true := by
          have both := State.mem_doneSlots.mp mem
          rw [State.namedSlot, Bool.and_eq_true, beq_true] at both
          exact both.2
        have once : (t.doneSlots slots z).Nodup := (by decide : ([0, 1, 2, 3] : List (Fin 4)).Nodup).filter _
        refine (foldl_freeSlot_regime _ (regime.frameArrives p extra) (mt empty.mp idle) once stands).trans ?_
        have delay : t.num .dormantDelay = s.num .dormantDelay := State.num_congr (by simp [t]) _
        have condition : (found true ≠ 0 ∧ t.regime.regime = .park ∧ r.tableEmpty = true) ↔
            (t.regime.regime = .park ∧ r.tableEmpty = true) := and_iff_right idle
        rw [delay]
        exact congrArg (fun d => { t.regime with dormant := d }) (if_congr condition.symm rfl rfl)

end

end Sys2Proof.Machine
end

section
/-!
PROOFS. Frames on the wire: the command that a frame's bytes are (R163, R165, R167), and the bytes that a port's bits are (R162).
-/

namespace Sys2Proof.Machine

/-! ## Words and vectors -/

theorem mkWord_eq (hi lo : Byte) : mkWord hi lo = BitVec.ofNat 16 (256 * hi.toNat + lo.toNat) := by
  apply BitVec.eq_of_toNat_eq
  have low := lo.isLt
  have high := hi.isLt
  rw [mkWord, BitVec.toNat_append, BitVec.toNat_ofNat, Nat.shiftLeft_eq, ← Nat.shiftLeft_eq, ← Nat.shiftLeft_add_eq_or_of_lt low,
    Nat.shiftLeft_eq]
  omega

theorem mkWord_hiByte_loByte (w : Word) : mkWord (hiByte w) (loByte w) = w := by
  rw [mkWord_eq]
  apply BitVec.eq_of_toNat_eq
  have bound := w.isLt
  simp only [hiByte, loByte, BitVec.toNat_ofNat, BitVec.toNat_setWidth, BitVec.toNat_ushiftRight, Nat.shiftRight_eq_div_pow]
  omega

theorem getD_toList {n : Nat} (v : Vector Byte n) (i : Fin n) : v.toList.getD i.val 0#8 = v.get i := by
  rw [List.getD_eq_getElem _ _ (by simp), Vector.get_eq_getElem]
  simp

theorem twelve_toList (v : Vector Byte 12) : twelve v.toList = v := by
  apply vector_ext_get
  intro i
  rw [← getD_toList, ← getD_toList]
  have all : (twelve v.toList).toList = v.toList := by
    change (v.toList ++ List.replicate 12 0#8).take 12 = v.toList
    rw [List.take_append_of_le_length (by simp), List.take_of_length_le (by simp)]
  rw [all]

/-! ## Decoding -/

/-- The last twelve of a run of bytes, when they end it. -/
theorem drop_before (before : List Byte) {frame : List Byte} (length : frame.length = 12) :
    (before ++ frame).drop ((before ++ frame).length - 12) = frame := by
  rw [List.length_append, length, Nat.add_sub_cancel, List.drop_left']
  rfl

theorem decodeFrame_append (p : Port) (before : List Byte) {frame : List Byte} (length : frame.length = 12) (tail : Fin 8) :
    decodeFrame p (before ++ frame) tail =
      if crc8 (frame.take 11) = frame.getD 11 0#8 then goodCommand p (8 * before.length + tail.val) (twelve frame)
      else .badCrc p (8 * before.length + tail.val) (twelve frame) := by
  have size : (before ++ frame).length = before.length + 12 := by rw [List.length_append, length]
  rw [decodeFrame, drop_before before length, frameCommand, dif_neg (by omega), size, Nat.add_sub_cancel]

theorem frameBytes_length (code arg : Byte) (data : List Byte) : (frameBytes code arg data).length = 12 := by
  simp [frameBytes]

/-- A frame that is written carries its own CRC. -/
theorem frameBytes_crc (code arg : Byte) (data : List Byte) :
    crc8 ((frameBytes code arg data).take 11) = (frameBytes code arg data).getD 11 0#8 := by
  have body : (code :: arg :: (packData data).toList).length = 11 := by simp
  change crc8 (((code :: arg :: (packData data).toList) ++ [_]).take 11) = ((code :: arg :: (packData data).toList) ++ [_]).getD 11 0#8
  rw [← body, List.take_left', List.getD_append_right _ _ _ _ (Nat.le_refl _), Nat.sub_self]
  · rfl
  · rfl

/-- A byte 0 that is no command code is unknown (R165). -/
theorem goodCommand_unknown {code arg : Byte} {data : List Byte} (unknown : knownCode code = false) (p : Port) (extra : Nat) :
    goodCommand p extra (twelve (frameBytes code arg data)) = .unknown p extra code := by
  have code_eq : (twelve (frameBytes code arg data)).get 0 = code := rfl
  have foreign : code.toNat = 0 ∨ 16 < code.toNat := by
    rw [knownCode, Bool.and_eq_false_iff, decide_eq_false_iff_not, decide_eq_false_iff_not] at unknown
    omega
  rw [goodCommand, code_eq]
  generalize code.toNat = n at foreign ⊢
  obtain rfl | far := foreign
  · rfl
  · obtain ⟨k, rfl⟩ := Nat.exists_eq_add_of_le' (Nat.succ_le_of_lt far)
    rfl

/-- A good frame's bytes spell its command. -/
theorem goodCommand_encodeGood {c : Instr} {frame : List Byte} {p : Port} {extra : Nat} (wf : c.wf = true)
    (encoded : encodeGood c = some frame) (on : c.frameOn = some (p, 96 + extra)) :
    ∃ code arg data, frame = frameBytes code arg data ∧ goodCommand p extra (twelve frame) = c := by
  have place {q : Port} {n : Nat} (same : some (q, 96 + n) = some (p, 96 + extra)) : q = p ∧ n = extra := by
    obtain ⟨rfl, clocks⟩ := Prod.mk.inj (Option.some.inj same)
    exact ⟨rfl, Nat.add_left_cancel clocks⟩
  cases c <;> cases encoded
  all_goals obtain ⟨rfl, rfl⟩ := place on
  case post q n slot sense tier weight asked lease =>
    exact ⟨_, _, _, rfl, congrArg (fun w => Instr.post q n slot sense tier weight w lease) (mkWord_hiByte_loByte asked)⟩
  case allow q n value lease => exact ⟨_, _, _, rfl, congrArg (fun w => Instr.allow q n w lease) (mkWord_hiByte_loByte value)⟩
  case setp q n id a b =>
    have words : Instr.setp q n id (mkWord (hiByte a) (loByte a)) (mkWord (hiByte b) (loByte b)) = .setp q n id a b := by
      rw [mkWord_hiByte_loByte, mkWord_hiByte_loByte]
    exact ⟨_, _, _, rfl, words⟩
  case force q n ch duty => exact ⟨_, _, _, rfl, congrArg (Instr.force q n ch) (mkWord_hiByte_loByte duty)⟩
  case ack q n set => exact ⟨_, _, _, rfl, congrArg (Instr.ack q n) (mkWord_hiByte_loByte set)⟩
  case enable q n set => exact ⟨_, _, _, rfl, congrArg (Instr.enable q n) (mkWord_hiByte_loByte set)⟩
  case unknown q n code => exact ⟨_, _, _, rfl, goodCommand_unknown (by simpa [Instr.wf] using wf) q n⟩
  all_goals exact ⟨_, _, _, rfl, rfl⟩

/-- Settles O4. -/
theorem decodeOfEncodeIsTheCommand : Obligations.DecodeOfEncodeIsTheCommand := by
  refine ⟨fun c frame before tail p wf encoded on => ?_, fun last before tail p crc => ?_⟩
  · have clocks : 8 * (before.length + 12) + tail.val = 96 + (8 * before.length + tail.val) := by omega
    rw [clocks] at on
    obtain ⟨code, arg, data, rfl, spelled⟩ := goodCommand_encodeGood wf encoded on
    rw [decodeFrame_append p before (frameBytes_length ..), if_pos (frameBytes_crc ..), spelled]
  · intro extra arg data word
    have get (i : Fin 12) : last.toList.getD i.val 0#8 = last.get i := getD_toList last i
    have good : crc8 (last.toList.take 11) = last.toList.getD 11 0#8 := crc.trans (get 11).symm
    rw [decodeFrame_append p before (by simp), if_pos good, twelve_toList]
    have words (k : Nat) (i j : Fin 12) (hi : i.val = k + 2) (lo : j.val = k + 1 + 2) : mkWord (last.get i) (last.get j) = word k := by
      rw [mkWord_eq, ← get i, ← get j, hi, lo]
    have byte (k : Nat) (i : Fin 12) (place : i.val = k + 2) : last.get i = data k := by rw [← get i, place]
    have option (a b : Instr) : (if data 0 = 0#8 then a else b) = if (data 0).toNat = 0 then a else b :=
      if_congr BitVec.toNat_inj.symm rfl rfl
    rewrite [goodCommand, words 3 5 6 rfl rfl, words 0 2 3 rfl rfl, words 2 4 5 rfl rfl, words 1 3 4 rfl rfl, byte 0 2 rfl, byte 1 3 rfl,
      byte 2 4 rfl, byte 5 7 rfl, option]
    rfl

/-! ## The receiver -/

/-- The last twelve bytes of a run. -/
def lastTwelve (bytes : List Byte) : List Byte := bytes.drop (bytes.length - 12)

theorem lastTwelve_append (bytes : List Byte) (b : Byte) : lastTwelve (lastTwelve bytes ++ [b]) = lastTwelve (bytes ++ [b]) := by
  unfold lastTwelve
  by_cases few : bytes.length ≤ 12
  · rw [Nat.sub_eq_zero_of_le few, List.drop_zero]
  · have size : (bytes.drop (bytes.length - 12) ++ [b]).length = 13 := by simp; omega
    have more : (bytes ++ [b]).length - 12 = bytes.length - 12 + 1 := by simp; omega
    rw [size, more, List.drop_append_of_le_length (by simp; omega), List.drop_append_of_le_length (by omega), List.drop_drop]

section
variable {l : LinkPort} (selected : l.selected = true) (heard : l.ignored = false)
include selected heard

/-- Whole bytes from the beginning of a frame: all counted, the last twelve kept (R162). -/
theorem LinkPort.clockIn_bytes (fresh : l.partialBits = []) (none : l.byteCount = 0) (empty : l.lastBytes = []) (bytes : List Byte) :
    (bytes.flatMap byteBits).foldl LinkPort.clockIn l = { l with byteCount := bytes.length, lastBytes := lastTwelve bytes } := by
  induction bytes using List.reverseRecOn with
  | nil =>
    change l = { l with byteCount := 0, lastBytes := [] }
    rw [← none, ← empty]
  | append_singleton bytes b ih =>
    rw [List.flatMap_append, List.foldl_append, ih, List.flatMap_singleton]
    refine (LinkPort.clockIn_byte (l := { l with byteCount := bytes.length, lastBytes := lastTwelve bytes }) b selected heard fresh).trans ?_
    have kept := lastTwelve_append bytes b
    rw [lastTwelve] at kept
    rw [List.length_append (as := bytes), List.length_singleton]
    exact congrArg (fun bs => { l with byteCount := bytes.length + 1, lastBytes := bs }) kept

/-- A whole frame's bits: its bytes, and the bits of an unfinished one (R162). -/
theorem LinkPort.clockIn_frame (fresh : l.partialBits = []) (none : l.byteCount = 0) (empty : l.lastBytes = []) (bytes : List Byte)
    {tail : List Bool} (few : tail.length < 8) :
    (bytes.flatMap byteBits ++ tail).foldl LinkPort.clockIn l =
      { l with byteCount := bytes.length, lastBytes := lastTwelve bytes, partialBits := tail } := by
  rw [List.foldl_append, LinkPort.clockIn_bytes selected heard fresh none empty]
  refine (LinkPort.clockIn_tail (l := { l with byteCount := bytes.length, lastBytes := lastTwelve bytes }) tail selected heard ?_).trans ?_
  · simp only [fresh]
    simpa using Nat.le_of_lt_succ few
  · simp only [fresh, List.nil_append]

end

/-- A reset leaves the part as some reset record finds it (R172, R173). -/
theorem exec_reset {c : Instr} {s r : State} (reset : c.isReset = true) (ran : exec c s = .next r) :
    ∃ record, r = s.resetWith record := by
  cases c
  case powerOnReset => exact ⟨_, (Host.Outcome.next.inj ran).symm⟩
  case resetLineReset => exact ⟨_, (Host.Outcome.next.inj ran).symm⟩
  case supplyDipReset => exact ⟨_, (Host.Outcome.next.inj ran).symm⟩
  all_goals exact absurd reset Bool.false_ne_true

/-- Settles O5. -/
theorem receiverReadsFramesFromBits : Obligations.ReceiverReadsFramesFromBits := by
  intro p bytes tail s few wire clocked idle frame
  have clock (t : State) : clocked t = t.setPort p (wire.foldl LinkPort.clockIn (t.port p)) := t.foldl_sckRises p wire
  have rest : (Fin.ofNat 8 tail.length).val = tail.length := Nat.mod_eq_of_lt few
  refine ⟨fun quiet => ?_, fun busy c r reset ran => ?_, fun short => ?_, fun before last split crc => ?_⟩
  · let l := (s.port p).receiverAt true
    have asserted : s.selectAsserted p = s.setPort p l := by
      rw [State.selectAsserted, LinkPort.select, quiet]
      rfl
    have read : wire.foldl LinkPort.clockIn l = { l with byteCount := bytes.length, lastBytes := lastTwelve bytes, partialBits := tail } :=
      LinkPort.clockIn_frame rfl rfl rfl rfl rfl bytes few
    rw [clock, asserted, State.port_setPort_self, State.setPort_setPort, read, State.selectReleased, State.port_setPort_self,
      State.setPort_setPort]
    rfl
  · obtain ⟨record, after⟩ := exec_reset reset ran
    have port : (r.port p).selected = true ∧ (r.port p).ignored = true := by
      rw [after, State.resetWith_port]
      exact ⟨busy, busy⟩
    have ignored : clocked r = r := by
      rw [clock, LinkPort.clockIn_ignored wire port.2, State.setPort, State.port, put_get]
    have none : (r.port p).completed p = Option.none := by
      rw [LinkPort.completed, if_neg fun both => by simp [port.2] at both]
    rw [ignored, State.selectReleased, none, Option.toList_none, List.append_nil]
    rfl
  · refine ⟨⟨8 * bytes.length + tail.length, by omega⟩, rfl, ?_⟩
    change decodeFrame p bytes (Fin.ofNat 8 tail.length) = _
    rw [decodeFrame, frameCommand, dif_pos short]
    simp only [rest]
  · change decodeFrame p bytes (Fin.ofNat 8 tail.length) = _
    have bad : crc8 (last.toList.take 11) ≠ last.toList.getD 11 0#8 := fun same => crc (same.trans (getD_toList last 11))
    rw [split, decodeFrame_append p before (by simp), if_neg bad, twelve_toList, rest]

end Sys2Proof.Machine
end

section
/-!
PROOFS. A guard's trip and return in full (R125 to R130): the age list, the regime with its timers, and the notices.
-/

namespace Sys2Proof.Machine

section
variable (s : State) (z : Zone)

/-- The part with the guard tripped and GUARD told, before its action (R127). -/
def State.tripTold : State := (s.setZone z (s.zone z).afterTrip).notify .guard (zonePort z)

theorem State.tripAwake_eq : s.tripAwake z = ((s.tripTold z).tripAction z).shedUpkeep := rfl

/-! ## The age list -/

theorem State.tripAwake_age : (s.tripAwake z).age =
    if s.guardAction z = .synth ∧ (s.demand (gIx z)).stands = false then s.age.erase (gIx z) ++ [gIx z] else s.age := by
  have params : (s.tripTold z).params = s.params := by simp [State.tripTold]
  have age : (s.tripTold z).age = s.age := by simp [State.tripTold]
  have stands : (s.tripTold z).demand (gIx z) = s.demand (gIx z) := State.demand_congr (by simp [State.tripTold]) _
  change ((s.tripTold z).tripAction z).age = _
  rw [State.tripAction, State.guardAction_congr params]
  cases s.guardAction z
  case notice => simp [age]
  case synth =>
    change ((s.tripTold z).writeDemand (gIx z) _ true).age = _
    rw [State.writeDemand_age, stands, age]
    cases (s.demand (gIx z)).stands <;> rfl
  case shed => simp [age]

theorem State.trip_age : (s.trip z).age =
    if s.guardAction z = .synth ∧ (s.demand (gIx z)).stands = false then s.age.erase (gIx z) ++ [gIx z] else s.age := by
  unfold State.trip
  split
  · have age : ((s.changeRegime .park).tripAwake z).resolve.age = ((s.changeRegime .park).tripAwake z).age := by simp
    rw [age, State.tripAwake_age, State.guardAction_congr (s := s) (by simp), State.demand_congr (s := s) (by simp)]
    simp
  · exact s.tripAwake_age z

theorem State.endSynth_age (old : GuardAction) : (s.endSynth z old).age =
    if old = .synth ∧ (s.demand (gIx z)).stands = true then s.age.erase (gIx z) else s.age := by
  cases old
  case synth =>
    unfold State.endSynth State.withdrawSynthetic
    cases (s.demand (gIx z)).stands <;> simp
  all_goals simp [State.endSynth]

theorem State.returnToMatch_age (old : GuardAction) : (s.returnToMatch z old).age =
    if old = .synth ∧ (s.demand (gIx z)).stands = true then s.age.erase (gIx z) else s.age :=
  State.endSynth_age (s.setZone z { s.zone z with guard := .armed }) z old

/-! ## The regime -/

theorem State.tripAwake_regime : (s.tripAwake z).regime =
    if s.guardAction z = .synth then { s.regime with dormant := none } else s.regime := by
  have params : (s.tripTold z).params = s.params := by simp [State.tripTold]
  have regime : (s.tripTold z).regime = s.regime := by simp [State.tripTold]
  change ((s.tripTold z).tripAction z).regime = _
  rw [State.tripAction, State.guardAction_congr params]
  cases s.guardAction z
  case notice => simp [regime]
  case synth =>
    change ((s.tripTold z).writeDemand (gIx z) ((s.tripTold z).syntheticDemand z) true).regime = _
    rw [State.writeDemand_of_stands _ _ _ (by rfl)]
    simp [regime]
  case shed => simp [regime]

/-- A table in which a demand stands after a trip: the synthetic one, or one that stood (R128). -/
theorem State.trip_tableEmpty : (s.trip z).tableEmpty = if s.guardAction z = .synth then false else s.tableEmpty := by
  by_cases synth : s.guardAction z = .synth
  · rw [if_pos synth, ← Bool.not_eq_true, State.tableEmpty_iff]
    intro none
    have stands := none (gIx z)
    rw [State.trip_demand, if_pos ⟨rfl, synth⟩] at stands
    exact absurd stands (by simp [State.syntheticDemand, Demand.stands])
  · have same (i : Fin 15) : (s.trip z).demand i = s.demand i := by rw [State.trip_demand, if_neg fun both => synth both.2]
    rw [if_neg synth]
    simp only [State.tableEmpty, same]

/-- The regime record of a trip that wakes: PARK, the action's effects, and then the resolution (R80, R127). -/
def RegimeCtl.wokenByTrip (c : RegimeCtl) (charge drive hvReady synth : Bool) (primeTime dormantDelay : Nat) : RegimeCtl :=
  let woken := Regime.next .park charge drive hvReady
  { c with
    regime := woken, chargePending := charge && !hvReady
    prime := if woken = .priming then some (1000000 * primeTime) else none
    dormant := if woken = .park ∧ synth = false then some (1000000 * dormantDelay) else none }

theorem RegimeCtl.resolved_wokenByTrip (c : RegimeCtl) (charge drive hvReady synth : Bool) (primeTime dormantDelay : Nat)
    (asleep : c.regime = .dormant) :
    RegimeCtl.resolved
        (if synth then { c.changed .park true primeTime dormantDelay with dormant := none } else c.changed .park true primeTime dormantDelay)
        charge drive hvReady (!synth) primeTime dormantDelay =
      c.wokenByTrip charge drive hvReady synth primeTime dormantDelay := by
  cases c with | mk r voteM voteB pending prime dormant =>
  obtain rfl : r = .dormant := asleep
  cases charge <;> cases drive <;> cases hvReady <;> cases synth <;> rfl

theorem RegimeCtl.changed_votes (c : RegimeCtl) (r : Regime) (empty : Bool) (primeTime dormantDelay : Nat) :
    (c.changed r empty primeTime dormantDelay).voteB = c.voteB ∧ (c.changed r empty primeTime dormantDelay).voteM = c.voteM := by
  unfold RegimeCtl.changed
  split <;> exact ⟨rfl, rfl⟩

variable {s} in
theorem State.trip_regime_of_dormant (asleep : s.regime.regime = .dormant) (empty : s.tableEmpty = true) : (s.trip z).regime =
    s.regime.wokenByTrip s.chargeVote s.driveVote s.hvReady (s.guardAction z == .synth) (s.num .primeTime) (s.num .dormantDelay) := by
  let parked := s.changeRegime .park
  have trip : s.trip z = (parked.tripAwake z).resolve := if_pos asleep
  have params : parked.params = s.params := by simp [parked]
  have action : parked.guardAction z = s.guardAction z := State.guardAction_congr params z
  have num (q : Param) : (parked.tripAwake z).num q = s.num q := State.num_congr (by simp [parked]) q
  have regime : (parked.tripAwake z).regime =
      if (s.guardAction z == .synth) = true then
        { s.regime.changed .park true (s.num .primeTime) (s.num .dormantDelay) with dormant := none }
      else s.regime.changed .park true (s.num .primeTime) (s.num .dormantDelay) := by
    rw [State.tripAwake_regime, action, State.changeRegime_regime_eq, empty]
    exact if_congr beq_iff_eq.symm rfl rfl
  have votes : (parked.tripAwake z).regime.voteB = s.regime.voteB ∧ (parked.tripAwake z).regime.voteM = s.regime.voteM := by
    rw [regime]
    split <;> exact RegimeCtl.changed_votes ..
  have presence (p : Port) : ((parked.tripAwake z).port p).presence = (s.port p).presence :=
    ((s.told_changeRegime .park).trans (parked.told_tripAwake z)).presence p
  have charge : (parked.tripAwake z).chargeVote = s.chargeVote := by rw [State.chargeVote_eq, State.chargeVote_eq, presence, votes.1]
  have drive : (parked.tripAwake z).driveVote = s.driveVote := by rw [State.driveVote_eq, State.driveVote_eq, presence, votes.2]
  have hvReady : (parked.tripAwake z).hvReady = s.hvReady := by simp [parked]
  have table : (parked.tripAwake z).tableEmpty = !(s.guardAction z == .synth) := by
    have after := s.trip_tableEmpty z
    rw [trip, State.tableEmpty_congr (s := parked.tripAwake z) (by simp), empty] at after
    rw [after]
    cases s.guardAction z <;> rfl
  rw [trip, State.resolve_regime_eq, charge, drive, hvReady, table, regime, num, num, RegimeCtl.resolved_wokenByTrip _ _ _ _ _ _ _ asleep]

/-- What the end of an action's synthetic demand leaves of the regime: its dormant timer starts where the table is empty in PARK. -/
theorem State.endSynth_regime (old : GuardAction) : (s.endSynth z old).regime =
    if old = .synth ∧ (s.demand (gIx z)).stands = true then
      { s.regime with
        dormant :=
          if s.regime.regime = .park ∧ (s.endSynth z old).tableEmpty = true then
            some (s.regime.dormant.getD (1000000 * s.num .dormantDelay))
          else none }
    else s.regime := by
  by_cases ends : old = .synth ∧ (s.demand (gIx z)).stands = true
  · obtain ⟨rfl, stands⟩ := ends
    let freed : State := { s.setDemand (gIx z) Demand.freeSlot with age := s.age.erase (gIx z) }
    have ended : s.endSynth z .synth = freed.dormantUpkeep := if_pos stands
    have empty : freed.dormantUpkeep.tableEmpty = freed.tableEmpty := State.tableEmpty_congr (by simp)
    rw [ended, empty, if_pos ⟨rfl, stands⟩, State.dormantUpkeep_regime, seconds_eq]
    rfl
  · rw [if_neg ends]
    cases old
    case synth => exact congrArg State.regime (if_neg fun stands => ends ⟨rfl, stands⟩)
    all_goals rfl

/-! ## The notices -/

/-- The flags a trip sets on a port: GUARD on its zone's, and on every port with action SHED (R127, R129). -/
def tripFlags (z : Zone) (action : GuardAction) (p : Port) : NoticeSet :=
  if zonePort z = p ∨ action = .shed then Notice.guard.mask else 0#9

theorem State.tripAwake_flags (p : Port) : ((s.tripAwake z).port p).flags = (s.port p).flags ||| tripFlags z (s.guardAction z) p := by
  have params : (s.tripTold z).params = s.params := by simp [State.tripTold]
  have told : ((s.tripTold z).port p).flags = (s.port p).flags ||| if zonePort z = p then Notice.guard.mask else 0#9 := by
    rw [State.tripTold, State.notify_port]
    by_cases own : p = zonePort z
    · rw [if_pos own, if_pos own.symm]
      rfl
    · rw [if_neg own, if_neg (Ne.symm own), BitVec.or_zero]
      rfl
  change (((s.tripTold z).tripAction z).port p).flags = _
  rw [State.tripAction, State.guardAction_congr params, tripFlags]
  cases s.guardAction z
  case notice => simpa using told
  case synth =>
    have port : ((s.tripTold z).createSynthetic z).port p = (s.tripTold z).port p := State.port_congr (by simp) p
    simpa [port] using told
  case shed =>
    change (((s.tripTold z).notifyAll .guard).port p).flags = _
    rw [State.notifyAll_port, LinkPort.withFlags_flags, told, BitVec.or_assoc]
    by_cases own : zonePort z = p <;> simp [own]

theorem or_swap (f g h : NoticeSet) : f ||| g ||| h = f ||| h ||| g := by
  rw [BitVec.or_assoc, BitVec.or_comm g, ← BitVec.or_assoc]

theorem State.trip_flags (p : Port) : ((s.trip z).port p).flags =
    (s.port p).flags ||| tripFlags z (s.guardAction z) p ||| if s.regime.regime = .dormant then Notice.regime.mask else 0#9 := by
  unfold State.trip
  split
  next asleep =>
    have other : ¬ s.regime.regime = .park := by simp [asleep]
    have parked : (((s.changeRegime .park).tripAwake z).port p).flags =
        (s.port p).flags ||| Notice.regime.mask ||| tripFlags z (s.guardAction z) p := by
      rw [State.tripAwake_flags, State.changeRegime_port, if_neg other, LinkPort.withFlags_flags, State.guardAction_congr (s := s) (by simp)]
    rcases State.resolve_port_cases ((s.changeRegime .park).tripAwake z) p with same | told
    · rw [same, parked, or_swap]
    · rw [told, LinkPort.withFlags_flags, parked, or_swap (s.port p).flags, BitVec.or_assoc, BitVec.or_self]
  next => rw [s.tripAwake_flags, BitVec.or_zero]

end

end Sys2Proof.Machine
end

section
/-!
PROOFS. A guard's evaluation and a live write of one of its parameters, with all that they do (R125 to R130).
-/

namespace Sys2Proof.Machine

section
variable (s : State) (z : Zone)

/-- The dormant timer after a guard's effects: running where PARK has an empty table, from the start unless it ran before (R78). -/
def State.timerAfter (t : State) : Option Nat :=
  if t.regime.regime = .park ∧ t.tableEmpty = true then
    (if s.regime.regime = .park ∧ s.tableEmpty = true then s.regime.dormant else some (1000000 * s.num .dormantDelay))
  else none

/-- The regime a trip's wake resolves to (R73, R80). -/
def State.wokenRegime : Regime := Regime.next .park s.chargeVote s.driveVote s.hvReady

/-- The regime record after a guard's effects; `wakes` says whether a trip ended DORMANT. -/
def State.regimeAfter (wakes : Bool) (t : State) : RegimeCtl :=
  { s.regime with
    regime := if wakes then s.wokenRegime else s.regime.regime
    chargePending := if wakes then s.chargeVote && !s.hvReady else s.regime.chargePending
    prime :=
      if wakes then (if s.wokenRegime = .priming then some (1000000 * s.num .primeTime) else none) else s.regime.prime
    dormant := s.timerAfter t }

/-- What a guard's effects leave of the part: whether it trips, returns to match, and ends a synthetic demand (R125 to R130). -/
structure State.GuardEffect (trips returns ends : Bool) (t : State) : Prop where
  zone : t.zone z =
    { cond := (s.zone z).cond
      guard := if trips then .tripped else if returns then .armed else (s.zone z).guard
      trips := if trips then min 255 ((s.zone z).trips + 1) else (s.zone z).trips }
  others : ∀ y, y ≠ z → t.zone y = s.zone y
  shed : t.shed = if trips || returns then t.shedWanted else s.shed
  demand : t.demand (gIx z) =
    if trips = true ∧ s.guardAction z = .synth then s.syntheticDemand z
    else if ends then Demand.freeSlot
    else s.demand (gIx z)
  posted : ∀ i, i ≠ gIx z → t.demand i = s.demand i
  age : t.age =
    if (t.demand (gIx z)).stands = (s.demand (gIx z)).stands then s.age
    else if (t.demand (gIx z)).stands then s.age ++ [gIx z]
    else s.age.filter (fun i => i != gIx z)
  regime : t.regime = s.regimeAfter (trips && s.regime.regime == .dormant) t
  flags : ∀ p, (t.port p).flags = (s.port p).flags |||
    (if trips then tripFlags z (s.guardAction z) p else 0#9) |||
    (if trips && s.regime.regime == .dormant then Notice.regime.mask else 0#9)
  rest : t = { s with
    ports := t.ports, demands := t.demands, age := t.age, regime := t.regime, zones := t.zones, shed := t.shed }

end

section
variable {s t : State} {z : Zone}

/-! ## The dormant timer -/

theorem State.RegimeOk.dormant_eq (ok : s.RegimeOk) : s.regime.dormant = s.timerAfter s := by
  rw [State.timerAfter]
  split
  · rfl
  next off => exact Option.isNone_iff_eq_none.mp (by simpa using mt ok.dormantTimer.mp off)

/-- The record that an awake part keeps, its dormant timer apart. -/
theorem State.regimeAfter_awake (dormant : s.timerAfter t = t.regime.dormant) :
    s.regimeAfter false t = { s.regime with dormant := t.regime.dormant } := by
  rw [State.regimeAfter, dormant]
  rfl

theorem State.RegimeOk.regimeAfter_same (ok : s.RegimeOk) (regime : t.regime = s.regime) (empty : t.tableEmpty = s.tableEmpty) :
    t.regime = s.regimeAfter false t := by
  have timer : s.timerAfter t = t.regime.dormant := by
    rw [regime, ok.dormant_eq, State.timerAfter, State.timerAfter, regime, empty]
  rw [State.regimeAfter_awake timer, regime]

/-- Where a slot has come or gone, the timer is brought up to date (R78). -/
theorem State.RegimeOk.regimeAfter_upkeep (ok : s.RegimeOk)
    (regime : t.regime =
      { s.regime with
        dormant :=
          if s.regime.regime = .park ∧ t.tableEmpty = true then some (s.regime.dormant.getD (1000000 * s.num .dormantDelay))
          else none }) :
    t.regime = s.regimeAfter false t := by
  have timer : s.timerAfter t = t.regime.dormant := by
    rw [regime, State.timerAfter, regime]
    refine if_congr Iff.rfl ?_ rfl
    by_cases ran : s.regime.regime = .park ∧ s.tableEmpty = true
    · obtain ⟨left, some⟩ := Option.isSome_iff_exists.mp (ok.dormantTimer.mpr ran)
      rw [if_pos ran, some]
      rfl
    · have none : s.regime.dormant = none := Option.isNone_iff_eq_none.mp (by simpa using mt ok.dormantTimer.mp ran)
      rw [if_neg ran, none]
      rfl
  rw [State.regimeAfter_awake timer, regime]

/-! ## The four cases -/

theorem State.RegimeOk.guardEffect_none (ok : s.RegimeOk) : s.GuardEffect z false false false s where
  zone := rfl
  others _ _ := rfl
  shed := rfl
  demand := by simp
  posted _ _ := rfl
  age := (if_pos rfl).symm
  regime := ok.regimeAfter_same rfl rfl
  flags p := by simp
  rest := rfl

/-- A trip (R127 to R129). -/
theorem State.RegimeOk.guardEffect_trip (ok : s.RegimeOk) (table : s.DemandsOk) {ends : Bool}
    (ended : ends = true → s.guardAction z = .synth) : s.GuardEffect z true false ends (s.trip z) where
  zone := by
    rw [State.trip_zone, if_pos rfl]
    rfl
  others y other := by rw [State.trip_zone, if_neg other]
  shed := s.trip_shed z
  demand := by
    rw [State.trip_demand]
    by_cases synth : s.guardAction z = .synth
    · rw [if_pos ⟨rfl, synth⟩, if_pos ⟨rfl, synth⟩]
    · have none : ends = false := by simpa using mt ended synth
      simp [synth, none]
  posted i other := by rw [State.trip_demand, if_neg fun own => other own.1]
  age := by
    have own : (s.trip z).demand (gIx z) = if s.guardAction z = .synth then s.syntheticDemand z else s.demand (gIx z) := by
      rw [State.trip_demand]
      exact if_congr (and_iff_right rfl) rfl rfl
    rw [State.trip_age, own]
    by_cases synth : s.guardAction z = .synth
    · have stands : (s.syntheticDemand z).stands = true := rfl
      rw [if_pos synth, stands]
      by_cases free : (s.demand (gIx z)).stands = false
      · have absent : gIx z ∉ s.age := fun mem => Bool.false_ne_true (free.symm.trans ((table.ageExact _).mp mem))
        rw [if_pos ⟨synth, free⟩, List.erase_of_not_mem absent, free]
        rfl
      · rw [if_neg fun both => free both.2, if_pos (by simpa using free)]
    · rw [if_neg fun both => synth both.1, if_neg synth, if_pos rfl]
  regime := by
    have empty := s.trip_tableEmpty z
    by_cases asleep : s.regime.regime = .dormant
    · have woken := State.trip_regime_of_dormant z asleep (ok.dormantEmpty asleep)
      have wakes : (true && s.regime.regime == .dormant) = true := by simp [asleep]
      have timer : s.timerAfter (s.trip z) =
          if s.wokenRegime = .park ∧ (s.guardAction z == .synth) = false then some (1000000 * s.num .dormantDelay) else none := by
        have fresh : ¬ (s.regime.regime = .park ∧ s.tableEmpty = true) := by simp [asleep]
        rw [State.timerAfter, if_neg fresh, woken, empty, ok.dormantEmpty asleep]
        refine if_congr (and_congr Iff.rfl ?_) rfl rfl
        cases s.guardAction z <;> decide
      rw [wakes, State.regimeAfter, timer, woken]
      rfl
    · have awake : (true && s.regime.regime == .dormant) = false := by simp [asleep]
      have trip : s.trip z = s.tripAwake z := if_neg asleep
      have regime := s.tripAwake_regime z
      rw [awake]
      by_cases synth : s.guardAction z = .synth
      · refine ok.regimeAfter_upkeep ?_
        rw [empty, if_pos synth, trip, regime, if_pos synth, if_neg (by simp)]
      · refine ok.regimeAfter_same ?_ ?_
        · rw [trip, regime, if_neg synth]
        · rw [empty, if_neg synth]
  flags p := by
    rw [State.trip_flags]
    by_cases asleep : s.regime.regime = .dormant <;> simp [asleep]
  rest := by apply State.eq_of_fields <;> simp

/-! ### Where an action's synthetic demand ends -/

/-- The end of a synthetic demand that may stand, as a slot's value. -/
theorem State.DemandsOk.ended_demand (table : s.DemandsOk) (old : GuardAction) :
    (if old = .synth ∧ (s.demand (gIx z)).stands = true then Demand.freeSlot else s.demand (gIx z)) =
      if old == .synth then Demand.freeSlot else s.demand (gIx z) := by
  by_cases synth : old = .synth
  · by_cases stands : (s.demand (gIx z)).stands = true
    · simp [synth, stands]
    · simp [synth, table.freeClear _ (by simpa using stands)]
  · simp [synth]

theorem State.DemandsOk.ended_age (table : s.DemandsOk) (old : GuardAction) {d : Demand}
    (ended : d = if old = .synth ∧ (s.demand (gIx z)).stands = true then Demand.freeSlot else s.demand (gIx z)) :
    (if old = .synth ∧ (s.demand (gIx z)).stands = true then s.age.erase (gIx z) else s.age) =
      if d.stands = (s.demand (gIx z)).stands then s.age
      else if d.stands then s.age ++ [gIx z]
      else s.age.filter (fun i => i != gIx z) := by
  by_cases ends : old = .synth ∧ (s.demand (gIx z)).stands = true
  · rw [if_pos ends] at ended ⊢
    have free : d.stands = false := ended ▸ rfl
    rw [free, ends.2, table.ageNodup.erase_eq_filter]
    rfl
  · rw [if_neg ends] at ended ⊢
    rw [ended, if_pos rfl]

/-- A return to match (R125, R127, R129). -/
theorem State.RegimeOk.guardEffect_return (ok : s.RegimeOk) (table : s.DemandsOk) (old : GuardAction) :
    s.GuardEffect z false true (old == .synth) (s.returnToMatch z old) where
  zone := by
    rw [State.returnToMatch_zone, if_pos rfl]
    rfl
  others y other := by rw [State.returnToMatch_zone, if_neg other]
  shed := s.returnToMatch_shed z old
  demand := by
    have quiet : ¬ (false = true ∧ s.guardAction z = .synth) := fun both => Bool.false_ne_true both.1
    rw [if_neg quiet, ← table.ended_demand old, State.returnToMatch_demand]
    exact if_congr (and_iff_right rfl) rfl rfl
  posted i other := by rw [State.returnToMatch_demand, if_neg fun own => other own.1]
  age := by
    rw [State.returnToMatch_age]
    refine table.ended_age old ?_
    rw [State.returnToMatch_demand]
    exact if_congr (and_iff_right rfl) rfl rfl
  regime := by
    rw [Bool.false_and]
    have regime : (s.returnToMatch z old).regime = _ := State.endSynth_regime (s.setZone z { s.zone z with guard := .armed }) z old
    by_cases ends : old = .synth ∧ (s.demand (gIx z)).stands = true
    · exact ok.regimeAfter_upkeep (regime.trans (if_pos ends))
    · refine ok.regimeAfter_same (regime.trans (if_neg ends)) ?_
      have same (i : Fin 15) : (s.returnToMatch z old).demand i = s.demand i := by
        rw [State.returnToMatch_demand, if_neg fun all => ends all.2]
      simp only [State.tableEmpty, same]
  flags p := by
    have port : (s.returnToMatch z old).port p = s.port p := State.port_congr (by simp [State.returnToMatch]) p
    simp [port]
  rest := by apply State.eq_of_fields <;> simp

/-- A live write that trips a TRIPPED guard again, its action no longer SYNTH (R130). -/
theorem State.RegimeOk.guardEffect_retrip (ok : s.RegimeOk) (table : s.DemandsOk) (old : GuardAction)
    (other : s.guardAction z ≠ .synth) : s.GuardEffect z true false (old == .synth) ((s.trip z).endSynth z old) := by
  have demand (i : Fin 15) : (s.trip z).demand i = s.demand i := by rw [State.trip_demand, if_neg fun both => other both.2]
  have age : (s.trip z).age = s.age := by rw [State.trip_age, if_neg fun both => other both.1]
  have empty : (s.trip z).tableEmpty = s.tableEmpty := by rw [State.trip_tableEmpty, if_neg other]
  have first : s.GuardEffect z true false false (s.trip z) := ok.guardEffect_trip table fun no => absurd no Bool.false_ne_true
  have zones : ((s.trip z).endSynth z old).zones = (s.trip z).zones := by simp
  have ports : ((s.trip z).endSynth z old).ports = (s.trip z).ports := by simp
  have ended (i : Fin 15) : ((s.trip z).endSynth z old).demand i =
      if i = gIx z ∧ old = .synth ∧ (s.demand (gIx z)).stands = true then Demand.freeSlot else s.demand i := by
    rw [State.endSynth_demand, demand, demand]
  exact {
    zone := (State.zone_congr zones z).trans first.zone
    others := fun y ne => (State.zone_congr zones y).trans (first.others y ne)
    shed := by
      have wanted : ((s.trip z).endSynth z old).shedWanted = (s.trip z).shedWanted :=
        State.shedWanted_congr (fun y => by rw [State.zone_congr zones]) (by simp)
      have shed : ((s.trip z).endSynth z old).shed = (s.trip z).shed := by simp
      rw [shed, wanted]
      exact s.trip_shed z
    demand := by
      have quiet : ¬ (true = true ∧ s.guardAction z = .synth) := fun both => other both.2
      rw [if_neg quiet, ← table.ended_demand old, ended]
      exact if_congr (and_iff_right rfl) rfl rfl
    posted := fun i ne => by rw [ended, if_neg fun own => ne own.1]
    age := by
      rw [State.endSynth_age, age, demand]
      refine table.ended_age old ?_
      rw [ended]
      exact if_congr (and_iff_right rfl) rfl rfl
    regime := by
      have regime := (s.trip z).endSynth_regime z old
      rw [demand] at regime
      by_cases ends : old = .synth ∧ (s.demand (gIx z)).stands = true
      · have awake : s.regime.regime ≠ .dormant := fun asleep =>
          Bool.false_ne_true (((State.tableEmpty_iff s).mp (ok.dormantEmpty asleep) (gIx z)).symm.trans ends.2)
        have kept : (s.trip z).regime = s.regime := by
          have trip : s.trip z = s.tripAwake z := if_neg awake
          rw [trip, State.tripAwake_regime, if_neg other]
        have quiet : (true && s.regime.regime == .dormant) = false := by simp [awake]
        rw [quiet]
        rw [if_pos ends, kept, State.num_congr (s := s) (by simp)] at regime
        exact ok.regimeAfter_upkeep regime
      · have same (i : Fin 15) : ((s.trip z).endSynth z old).demand i = (s.trip z).demand i := by
          rw [ended, demand, if_neg fun all => ends all.2]
        have table : ((s.trip z).endSynth z old).tableEmpty = (s.trip z).tableEmpty := by simp only [State.tableEmpty, same]
        have kept := regime.trans (if_neg ends)
        have timer : s.timerAfter ((s.trip z).endSynth z old) = s.timerAfter (s.trip z) := by
          rw [State.timerAfter, State.timerAfter, kept, table]
        rw [kept, State.regimeAfter, timer]
        exact first.regime
    flags := fun p => (congrArg LinkPort.flags (State.port_congr ports p)).trans (first.flags p)
    rest := by apply State.eq_of_fields <;> simp }

/-! ## An evaluation and a live write, case by case -/

/-- What an evaluation, or a live write with the action before it, makes of a guard (R125, R130). -/
def State.guardRun (s : State) (z : Zone) (write : Option GuardAction) : State :=
  match write with
  | none => s.evaluate z
  | some before => s.guardWritten z before

/-- The guard trips: it does not match, and it is ARMED, or TRIPPED and written to (R125, R130). -/
def State.guardTrips (s : State) (z : Zone) (write : Option GuardAction) : Bool :=
  !s.guardMatches z && ((s.zone z).guard == .armed || ((s.zone z).guard == .tripped && write.isSome))

/-- The guard returns to match (R125). -/
def State.guardReturns (s : State) (z : Zone) : Bool := s.guardMatches z && (s.zone z).guard == .tripped

/-- The action whose synthetic demand ends with a return or a new trip (R130). -/
def State.guardEnds (s : State) (z : Zone) (write : Option GuardAction) : Bool :=
  (s.guardReturns z || (s.guardTrips z write && (s.zone z).guard == .tripped)) && write.getD (s.guardAction z) == .synth

theorem State.RegimeOk.guardEffect (ok : s.RegimeOk) (table : s.DemandsOk) (write : Option GuardAction) :
    s.GuardEffect z (s.guardTrips z write) (s.guardReturns z) (s.guardEnds z write) (s.guardRun z write) := by
  have none := ok.guardEffect_none (z := z)
  cases guard : (s.zone z).guard <;> cases hit : s.guardMatches z <;> cases write
  all_goals simp only [State.guardTrips, State.guardReturns, State.guardEnds, State.guardRun, State.evaluate, State.guardWritten, guard,
    hit]
  case unarmed.false.none => exact none
  case unarmed.false.some => exact none
  case unarmed.true.none => exact none
  case unarmed.true.some => exact none
  case armed.false.none => exact ok.guardEffect_trip table fun no => absurd no Bool.false_ne_true
  case armed.false.some => exact ok.guardEffect_trip table fun no => absurd no Bool.false_ne_true
  case armed.true.none => exact none
  case armed.true.some => exact none
  case tripped.false.none => exact none
  case tripped.false.some before =>
    by_cases synth : s.guardAction z = .synth
    · simp only [if_pos synth]
      exact ok.guardEffect_trip table fun _ => synth
    · simp only [if_neg synth]
      exact ok.guardEffect_retrip table before synth
  case tripped.true.none => exact ok.guardEffect_return table _
  case tripped.true.some before => exact ok.guardEffect_return table before

theorem guardAction_synth_iff : s.guardAction z = .synth ↔ s.num (.guardAction z) = 1 := by
  rw [State.guardAction, actionOf]
  generalize s.num (.guardAction z) = v
  split_ifs with one two
  · simp [one]
  · simp [two]
  · simp [one]

theorem guardAction_shed_iff : s.guardAction z = .shed ↔ s.num (.guardAction z) = 2 := by
  rw [State.guardAction, actionOf]
  generalize s.num (.guardAction z) = v
  split_ifs with one two
  · simp [one]
  · simp [two]
  · simp [two]

theorem State.told_guardRun (s : State) (z : Zone) (write : Option GuardAction) : s.Told (s.guardRun z write) := by
  cases write with
  | none => exact s.told_evaluate z
  | some before => exact s.told_guardWritten z before

/-- A sound port that is told notices is known from its flags (R170). -/
theorem State.PortsOk.port_of_told (ports : s.PortsOk) (told : s.Told t) (ring : t.ring = s.ring) {p : Port} {f : NoticeSet}
    (flags : (t.port p).flags = f) :
    t.port p = { s.port p with flags := f, attention := f &&& (s.port p).enables != 0#9 } := by
  have kept := (told p).kept.1
  have line : (t.port p).attention = lineFor (t.port p).flags (t.port p).enables := ((ports.told told ring).port p).line
  have enables : (t.port p).enables = (s.port p).enables := by rw [kept]
  rw [kept, line, enables, flags]
  rfl

/-- Settles O38. -/
theorem guardsTripAndReturn : Obligations.GuardsTripAndReturn := by
  intro z write s table ok ports t old asks hit trips returns action ends wakes charge drive woken flags
  have effect : s.GuardEffect z (s.guardTrips z write) (s.guardReturns z) (s.guardEnds z write) t := ok.guardEffect table write
  have hits : s.guardMatches z = hit := rfl
  have tripped : s.guardTrips z write = trips := rfl
  have returned : s.guardReturns z = returns := rfl
  have synth : s.guardAction z = .synth ↔ action = 1 := guardAction_synth_iff
  have ended : s.guardEnds z write = ends := by
    have own : (s.guardAction z == .synth) = (action == 1) := by
      rw [Bool.eq_iff_iff, beq_iff_eq, beq_iff_eq]
      exact synth
    cases write with
    | none => exact congrArg (_ && ·) own
    | some before => rfl
  have woke : (trips && s.regime.regime == .dormant) = wakes := rfl
  have params : t.params = s.params := by
    rw [effect.rest]
  have ring : t.ring = s.ring := by
    rw [effect.rest]
  rw [tripped, returned, ended] at effect
  obtain ⟨zone, others, shed, demand, posted, age, regime, marks, rest⟩ := effect
  refine ⟨fun c => rfl, zone, others, ?_, ?_, posted, age, ?_, fun p => ?_, rest⟩
  · rw [shed]
    refine congrArg (fun b => if trips || returns then b else s.shed) ?_
    refine congrArg (List.any allZones) (funext fun y => ?_)
    rw [State.guardAction_congr params]
    refine congrArg ((t.zone y).guard == .tripped && ·) ?_
    rw [Bool.eq_iff_iff, beq_iff_eq, beq_iff_eq]
    exact guardAction_shed_iff
  · rw [demand]
    exact if_congr (and_congr_right fun _ => synth) rfl rfl
  · rw [woke] at regime
    exact regime
  · refine ports.port_of_told (s.told_guardRun z write) ring ((marks p).trans ?_)
    refine congrArg (fun f => (s.port p).flags ||| f ||| if wakes then Notice.regime.mask else 0#9) ?_
    cases trips
    · simp
    · rw [if_pos rfl, tripFlags]
      exact if_congr ((or_congr_right guardAction_shed_iff).trans (and_iff_right rfl).symm) rfl rfl

end

end Sys2Proof.Machine
end

section
/-!
PROOFS. RUN entry (R85, R126, R141, R159): the Regime Controller, then the guards one after another, then the outputs.
-/

namespace Sys2Proof.Machine

section
variable {s : State}

/-! ## The Regime Controller at RUN entry -/

/-- The regime record that RUN entry resolves, the table empty or not (R85). -/
def RegimeCtl.atEntry (c : RegimeCtl) (charge hvReady empty : Bool) (primeTime dormantDelay : Nat) : RegimeCtl :=
  let regime : Regime := if charge && hvReady then .priming else .park
  { regime := regime, voteM := .park, voteB := c.voteB, chargePending := charge && !hvReady
    prime := if regime = .priming then some (1000000 * primeTime) else none
    dormant := if regime = .park ∧ empty = true then some (1000000 * dormantDelay) else none }

/-- The record that RUN entry starts from: PARK, port M's vote PARK. -/
def RegimeCtl.parkedVotes (c : RegimeCtl) : RegimeCtl := { c with regime := .park, voteM := .park }

theorem RegimeCtl.resolved_atEntry (c : RegimeCtl) (charge hvReady empty : Bool) (primeTime dormantDelay : Nat)
    (prime : c.prime = none) (dormant : c.dormant = none) :
    (let r := c.parkedVotes.resolved charge false hvReady empty primeTime dormantDelay
    { r with
      dormant := if r.regime = .park ∧ empty = true then some (r.dormant.getD (1000000 * dormantDelay)) else none }) =
      c.atEntry charge hvReady empty primeTime dormantDelay := by
  cases c with | mk r voteM voteB pending p d =>
  obtain rfl : p = none := prime
  obtain rfl : d = none := dormant
  cases charge <;> cases hvReady <;> cases empty <;> rfl

theorem State.RegimeOk.enteringRun_regime (ok : s.RegimeOk) (off : s.running = false) : s.enteringRun.regime =
    s.regime.atEntry s.chargeVote s.hvReady s.tableEmpty (s.num .primeTime) (s.num .dormantDelay) := by
  have none := ok.setupHasNone.mpr off
  have prime : s.regime.prime = Option.none := Option.isNone_iff_eq_none.mp (by simpa [none] using mt ok.prime.mp)
  have dormant : s.regime.dormant = Option.none := Option.isNone_iff_eq_none.mp (by simpa [none] using mt ok.dormantTimer.mp)
  let begun : State :=
    { s with setup := { s.setup with state := .run, reason := .noFault, faultId := 0 }, regime := s.regime.parkedVotes }
  have drive : begun.driveVote = false := rfl
  have resolved : begun.resolve.regime =
      s.regime.parkedVotes.resolved s.chargeVote false s.hvReady s.tableEmpty (s.num .primeTime) (s.num .dormantDelay) := by
    rw [State.resolve_regime_eq, drive]
    rfl
  have told : (begun.resolve.notifyAll .regime).regime = begun.resolve.regime := by simp
  have empty : (begun.resolve.notifyAll .regime).tableEmpty = s.tableEmpty := State.tableEmpty_congr (by simp [begun])
  have num : (begun.resolve.notifyAll .regime).num .dormantDelay = s.num .dormantDelay := State.num_congr (by simp [begun]) _
  change ((begun.resolve.notifyAll .regime).dormantUpkeep).regime = _
  rw [State.dormantUpkeep_regime, told, empty, num, seconds_eq, resolved]
  exact RegimeCtl.resolved_atEntry _ _ _ _ _ _ prime dormant

theorem State.enteringRun_flags (p : Port) : (s.enteringRun.port p).flags = (s.port p).flags ||| Notice.regime.mask := by
  let begun : State :=
    { s with setup := { s.setup with state := .run, reason := .noFault, faultId := 0 }, regime := s.regime.parkedVotes }
  have port : s.enteringRun.port p = (begun.resolve.notifyAll .regime).port p := State.port_congr (by
    change ((begun.resolve.notifyAll .regime).dormantUpkeep).ports = _
    simp) p
  rw [port, State.notifyAll_port, LinkPort.withFlags_flags]
  rcases begun.resolve_port_cases p with same | told
  · rw [same]
    rfl
  · rw [told, LinkPort.withFlags_flags, BitVec.or_assoc, BitVec.or_self]
    rfl

/-! ## One guard armed and evaluated -/

/-- A guard whose synthetic demand joins the table at RUN entry (R126, R128). -/
def State.entrySynthetic (s : State) (z : Zone) : Bool := !s.guardMatches z && s.guardAction z == .synth

/-- What arming one guard at RUN entry leaves (R126). -/
structure State.GuardArmed (s : State) (z : Zone) (t : State) : Prop where
  zone : t.zone z =
    { cond := (s.zone z).cond
      guard := if !s.guardMatches z then .tripped else .armed
      trips := if !s.guardMatches z then min 255 ((s.zone z).trips + 1) else (s.zone z).trips }
  others : ∀ y, y ≠ z → t.zone y = s.zone y
  demand : t.demand (gIx z) = if s.entrySynthetic z then s.syntheticDemand z else s.demand (gIx z)
  posted : ∀ i, i ≠ gIx z → t.demand i = s.demand i
  age : t.age = s.age ++ if s.entrySynthetic z then [gIx z] else []
  regime : t.regime = s.regimeAfter false t
  flags : ∀ p, (t.port p).flags =
    (s.port p).flags ||| if !s.guardMatches z then tripFlags z (s.guardAction z) p else 0#9

theorem State.RegimeOk.guardArmed {z : Zone} (ok : s.RegimeOk) (table : s.DemandsOk) (awake : s.regime.regime ≠ .dormant)
    (free : (s.demand (gIx z)).stands = false) : s.GuardArmed z (s.armGuard z) := by
  let armed := s.setZone z { s.zone z with guard := .armed }
  have zone : armed.zone z = { s.zone z with guard := .armed } := by rw [State.zone_setZone, if_pos rfl]
  have hit : armed.guardMatches z = s.guardMatches z := State.guardMatches_congr (by rw [zone]) rfl
  have trips : armed.guardTrips z none = !s.guardMatches z := by rw [State.guardTrips, hit, zone, Bool.and_eq_left_iff_imp]; simp
  have returns : armed.guardReturns z = false := by rw [State.guardReturns, zone, hit]; simp
  have ends : armed.guardEnds z none = false := by rw [State.guardEnds, returns, zone]; simp
  have effect : armed.GuardEffect z (armed.guardTrips z none) (armed.guardReturns z) (armed.guardEnds z none) (s.armGuard z) :=
    State.RegimeOk.guardEffect (State.RegimeOk.congr (t := armed) ok rfl rfl rfl rfl rfl) (table.congr rfl rfl) none
  rw [trips, returns, ends] at effect
  have quiet : (!s.guardMatches z && armed.regime.regime == .dormant) = false := by
    rw [Bool.and_eq_false_iff]
    exact .inr (by simpa [armed] using awake)
  have demand : (s.armGuard z).demand (gIx z) = if s.entrySynthetic z then s.syntheticDemand z else s.demand (gIx z) := by
    refine effect.demand.trans (if_congr ?_ rfl (if_neg Bool.false_ne_true))
    rw [State.entrySynthetic, Bool.and_eq_true, beq_iff_eq]
    rfl
  exact {
    zone := effect.zone.trans (by rw [zone]; rfl)
    others := fun y other => (effect.others y other).trans (by rw [State.zone_setZone, if_neg other])
    demand := demand
    posted := fun i other => effect.posted i other
    age := by
      refine effect.age.trans ?_
      have before : (armed.demand (gIx z)).stands = false := free
      have after : ((s.armGuard z).demand (gIx z)).stands = s.entrySynthetic z := by
        rw [demand]
        cases s.entrySynthetic z
        · exact free
        · rfl
      rw [before, after]
      cases s.entrySynthetic z
      · exact (List.append_nil _).symm
      · rfl
    regime := by
      have regime := effect.regime
      rw [quiet] at regime
      exact regime
    flags := fun p => by
      have flags := effect.flags p
      rw [quiet] at flags
      refine flags.trans ?_
      rw [if_neg Bool.false_ne_true, BitVec.or_zero]
      rfl }

/-! ## The dormant timer through RUN entry -/

/-- The dormant timer as PARK and an empty table ask, from its start (R78). -/
def State.Timed (c : RegimeCtl) (delay : Nat) (t : State) : Prop :=
  t.regime = { c with dormant := if c.regime = .park ∧ t.tableEmpty = true then some (1000000 * delay) else none }

theorem State.GuardArmed.timed {z : Zone} {t : State} {c : RegimeCtl} (armed : s.GuardArmed z t)
    (before : State.Timed c (s.num .dormantDelay) s) : State.Timed c (s.num .dormantDelay) t := by
  have regime := armed.regime
  have kind : t.regime.regime = c.regime := by rw [regime, State.regimeAfter, before]; rfl
  rw [State.Timed, regime, State.regimeAfter, State.timerAfter, kind, before]
  refine congrArg (fun d => { c with dormant := d }) ?_
  by_cases now : c.regime = .park ∧ t.tableEmpty = true
  · rw [if_pos now, if_pos now]
    by_cases ran : c.regime = .park ∧ s.tableEmpty = true
    · exact (if_pos ran).trans (if_pos ran)
    · exact if_neg ran
  · rw [if_neg now, if_neg now]

/-! ## The three guards -/

variable {t : State}

theorem State.entrySynthetic_congr {z : Zone} (cond : (t.zone z).cond = (s.zone z).cond) (params : t.params = s.params) :
    t.entrySynthetic z = s.entrySynthetic z := by
  rw [State.entrySynthetic, State.guardMatches_congr cond params, State.guardAction_congr params]
  rfl

/-- One notice told for either of two causes. -/
theorem marks_or (n : NoticeSet) (a b : Bool) :
    ((if a then n else 0#9) ||| if b then n else 0#9) = if a || b then n else 0#9 := by
  cases a <;> cases b <;> simp

theorem marked_trip (trips : Bool) (z : Zone) (action : GuardAction) (p : Port) :
    (if trips then tripFlags z action p else 0#9) =
      if trips && (zonePort z == p || action == .shed) then Notice.guard.mask else 0#9 := by
  cases trips
  · rfl
  · rw [if_pos rfl, tripFlags]
    exact if_congr (by simp) rfl rfl

/-- What arming all three guards at RUN entry leaves, from the part as the Regime Controller and the Allocator left it (R126). -/
structure State.GuardsArmed (s : State) (t : State) : Prop where
  zone : ∀ z, t.zone z =
    { cond := (s.zone z).cond
      guard := if !s.guardMatches z then .tripped else .armed
      trips := if !s.guardMatches z then min 255 ((s.zone z).trips + 1) else (s.zone z).trips }
  demand : ∀ z, t.demand (gIx z) = if s.entrySynthetic z then s.syntheticDemand z else s.demand (gIx z)
  posted : ∀ z k, t.demand (postedIx z k) = s.demand (postedIx z k)
  age : t.age = s.age ++ (allZones.filter s.entrySynthetic).map gIx
  flags : ∀ p, (t.port p).flags = (s.port p).flags |||
    if allZones.any (fun z => !s.guardMatches z && (zonePort z == p || s.guardAction z == .shed)) then Notice.guard.mask else 0#9

theorem State.RegimeOk.guardsArmed (ok : s.RegimeOk) (params : s.ParamsOk) (table : s.DemandsOk) (awake : s.regime.regime ≠ .dormant)
    (free : ∀ z, (s.demand (gIx z)).stands = false) {c : RegimeCtl} (timed : State.Timed c (s.num .dormantDelay) s) :
    s.GuardsArmed (((s.armGuard .motor).armGuard .battery).armGuard .cabin) ∧
    State.Timed c (s.num .dormantDelay) (((s.armGuard .motor).armGuard .battery).armGuard .cabin) := by
  let m := s.armGuard .motor
  let b := m.armGuard .battery
  let d := b.armGuard .cabin
  have motor : s.GuardArmed .motor m := ok.guardArmed table awake (free _)
  have timedM : State.Timed c (s.num .dormantDelay) m := motor.timed timed
  have awakeM : m.regime.regime ≠ .dormant := by rw [motor.regime]; exact awake
  have demandM (z : Zone) (other : z ≠ .motor) : m.demand (gIx z) = s.demand (gIx z) := motor.posted _ (gIx_inj.not.mpr other)
  have paramsM : m.params = s.params := by simp [m]
  have battery : m.GuardArmed .battery b :=
    (ok.armGuard .motor).guardArmed (table.armGuard params .motor) awakeM (by rw [demandM _ (by decide)]; exact free _)
  have num : m.num .dormantDelay = s.num .dormantDelay := State.num_congr paramsM _
  have timedB : State.Timed c (s.num .dormantDelay) b := num ▸ battery.timed (num ▸ timedM)
  have awakeB : b.regime.regime ≠ .dormant := by rw [battery.regime]; exact awakeM
  have demandB (z : Zone) (other : z ≠ .battery) : b.demand (gIx z) = m.demand (gIx z) := battery.posted _ (gIx_inj.not.mpr other)
  have paramsB : b.params = s.params := by simp [b, m]
  have cabin : b.GuardArmed .cabin d :=
    ((ok.armGuard .motor).armGuard .battery).guardArmed ((table.armGuard params .motor).armGuard (params.congr paramsM) .battery) awakeB
      (by rw [demandB _ (by decide), demandM _ (by decide)]; exact free _)
  have num' : b.num .dormantDelay = s.num .dormantDelay := State.num_congr paramsB _
  have timedD : State.Timed c (s.num .dormantDelay) d := num' ▸ cabin.timed (num' ▸ timedB)
  have zoneM : m.zone .battery = s.zone .battery := motor.others _ (by decide)
  have zoneB : b.zone .cabin = s.zone .cabin := (battery.others _ (by decide)).trans (motor.others _ (by decide))
  have hitM : m.guardMatches .battery = s.guardMatches .battery := State.guardMatches_congr (by rw [zoneM]) paramsM
  have hitB : b.guardMatches .cabin = s.guardMatches .cabin := State.guardMatches_congr (by rw [zoneB]) paramsB
  have synthM : m.entrySynthetic .battery = s.entrySynthetic .battery := State.entrySynthetic_congr (by rw [zoneM]) paramsM
  have synthB : b.entrySynthetic .cabin = s.entrySynthetic .cabin := State.entrySynthetic_congr (by rw [zoneB]) paramsB
  refine ⟨⟨fun z => ?_, fun z => ?_, fun z k => ?_, ?_, fun p => ?_⟩, timedD⟩
  · cases z
    case motor => exact (cabin.others _ (by decide)).trans ((battery.others _ (by decide)).trans motor.zone)
    case battery =>
      refine (cabin.others _ (by decide)).trans (battery.zone.trans ?_)
      rw [zoneM, hitM]
    case cabin =>
      refine cabin.zone.trans ?_
      rw [zoneB, hitB]
  · cases z
    case motor =>
      exact (cabin.posted _ (gIx_inj.not.mpr (by decide))).trans ((battery.posted _ (gIx_inj.not.mpr (by decide))).trans motor.demand)
    case battery =>
      refine (cabin.posted _ (gIx_inj.not.mpr (by decide))).trans (battery.demand.trans ?_)
      rw [synthM, State.syntheticDemand_congr paramsM, demandM _ (by decide)]
    case cabin =>
      refine cabin.demand.trans ?_
      rw [synthB, State.syntheticDemand_congr paramsB, demandB _ (by decide), demandM _ (by decide)]
  · exact (cabin.posted _ (postedIx_ne_gIx z _ k)).trans ((battery.posted _ (postedIx_ne_gIx z _ k)).trans (motor.posted _ (postedIx_ne_gIx z _ k)))
  · refine cabin.age.trans ?_
    rw [battery.age, motor.age, synthM, synthB, allZones]
    cases synthMotor : s.entrySynthetic .motor <;> cases synthBattery : s.entrySynthetic .battery <;>
      cases synthCabin : s.entrySynthetic .cabin <;> simp [synthMotor, synthBattery, synthCabin]
  · refine (cabin.flags p).trans ?_
    rw [battery.flags, motor.flags, hitM, hitB, State.guardAction_congr paramsM, State.guardAction_congr paramsB, marked_trip,
      marked_trip, marked_trip, BitVec.or_assoc, BitVec.or_assoc, marks_or, marks_or]
    simp only [allZones, List.any_cons, List.any_nil, Bool.or_false]

/-! ## The part once RUN is entered -/

/-- The part at RUN entry as the Regime Controller and the Allocator leave it (R84, R85, R22, R43). -/
def State.entered (s : State) : State := s.enteringRun.allocatorRunEntry

theorem State.Ok.guardsArmed (ok : s.Ok) (off : s.running = false) :
    s.entered.GuardsArmed s.guardsArmed ∧
      State.Timed (s.regime.atEntry s.chargeVote s.hvReady s.tableEmpty (s.num .primeTime) (s.num .dormantDelay))
        (s.num .dormantDelay) s.guardsArmed := by
  have stopped : s.regime.prime = none := by
    have none := ok.regime.setupHasNone.mpr off
    exact Option.isNone_iff_eq_none.mp (by simpa [none] using mt ok.regime.prime.mp)
  have entering : s.enteringRun.RegimeOk := .regimeRunEntry rfl stopped
  have params : s.entered.params = s.params := by simp [State.entered, State.enteringRun]
  have demands : s.entered.demands = s.demands := by simp [State.entered, State.enteringRun]
  have age : s.entered.age = s.age := by simp [State.entered, State.enteringRun]
  have regime : s.entered.regime =
      s.regime.atEntry s.chargeVote s.hvReady s.tableEmpty (s.num .primeTime) (s.num .dormantDelay) :=
    ok.regime.enteringRun_regime off
  have empty : s.entered.tableEmpty = s.tableEmpty := State.tableEmpty_congr demands
  have num : s.entered.num .dormantDelay = s.num .dormantDelay := State.num_congr params _
  obtain ⟨-, -, guards⟩ := State.zonesOk_iff.mp ok.zones
  rw [← num]
  refine State.RegimeOk.guardsArmed (s := s.entered) (entering.congr rfl rfl rfl rfl rfl) (ok.params.congr params)
    (ok.demands.congr demands age) (State.regimeRunEntry_awake _) (fun z => ?_) ?_
  · rw [State.demand_congr demands]
    refine Bool.eq_false_iff.mpr fun stands => ?_
    have unarmed := (guards.guards z).unarmed.mpr off
    exact GuardState.noConfusion (unarmed.symm.trans ((guards.guards z).synthetic.mp stands).1)
  · rw [State.Timed, regime, empty, num]
    rfl

/-- The outputs at RUN entry: every force cleared, its setpoint handed on (R141). -/
theorem State.enterRun_out (s : State) (c : PwmCh) : s.enterRun.out c = (s.out c).unforced := by
  have armed : s.guardsArmed.out c = s.out c := State.out_congr (by simp [State.guardsArmed, State.enteringRun]) c
  rw [State.enterRun_eq, State.out_congr (s := s.guardsArmed.clearForces) (by simp), ← armed]
  exact get_mapTable ..

theorem PwmChannel.unforced_eq (c : PwmChannel) :
    c.unforced = if c.force = none then c else { c with force := none, pendingDuty := some c.setpoint } := by
  rw [PwmChannel.unforced]
  cases c.force <;> rfl

/-- The cycle period that RUN entry starts with, by the regime it resolves (R22). -/
theorem State.cyclePeriod_eq_of_entry {first : Bool} (h : s.regime.regime = if first then .priming else .park) :
    s.cyclePeriod = if (if first then Regime.priming else .park) = .priming then 1000 * s.num .cycleRun else 1000 * s.num .cyclePark := by
  rw [State.cyclePeriod, h]
  cases first
  · exact Nat.mul_comm ..
  · exact Nat.mul_comm ..

/-- Settles O47. -/
theorem validationThatPassesEntersRun : Obligations.ValidationThatPassesEntersRun := by
  intro s ok off passes t charge regime period trips action synthetic flags
  have ran : t = s.guardsArmed.clearForces.notifyAll .setup := by
    change s.validate = _
    rw [State.validate, passes]
    rfl
  have entering : t = s.enterRun := ran
  obtain ⟨armed, timed⟩ := ok.guardsArmed off
  have params : s.entered.params = s.params := by simp [State.entered, State.enteringRun]
  have zones : s.entered.zones = s.zones := by simp [State.entered, State.enteringRun]
  have demands : s.entered.demands = s.demands := by simp [State.entered, State.enteringRun]
  have hit (z : Zone) : s.entered.guardMatches z = s.guardMatches z :=
    State.guardMatches_congr (by rw [State.zone_congr zones]) params
  have synth (z : Zone) : s.entered.entrySynthetic z = synthetic z := by
    rw [State.entrySynthetic_congr (s := s) (by rw [State.zone_congr zones]) params, State.entrySynthetic]
    refine congrArg (trips z && ·) (Bool.eq_iff_iff.mpr ?_)
    rw [beq_iff_eq, beq_iff_eq]
    exact guardAction_synth_iff
  have shed (z : Zone) : (s.guardAction z == .shed) = (action z == 2) := by
    rw [Bool.eq_iff_iff, beq_iff_eq, beq_iff_eq]
    exact guardAction_shed_iff
  have tZones : t.zones = s.guardsArmed.zones := by rw [ran]; simp
  have tDemands : t.demands = s.guardsArmed.demands := by rw [ran]; simp
  have tParams : t.params = s.params := by rw [entering]; simp
  have zone (z : Zone) : t.zone z =
      { cond := (s.zone z).cond, guard := if trips z then .tripped else .armed
        trips := if trips z then min 255 ((s.zone z).trips + 1) else (s.zone z).trips } := by
    rw [State.zone_congr tZones, armed.zone, State.zone_congr zones, hit]
  obtain ⟨-, -, guards⟩ := State.zonesOk_iff.mp ok.zones
  refine ⟨?_, ?_, ?_, zone, ?_, fun z => ?_, fun z k => ?_, ?_, fun c => ?_, fun p => ?_, ?_⟩
  · rw [ran]
    simp [State.guardsArmed, State.enteringRun]
  · have tRegime : t.regime = s.guardsArmed.regime := by rw [ran]; simp
    rw [tRegime, timed, State.tableEmpty_congr tDemands]
    rfl
  · have first : s.enteringRun.regime.regime = regime := by rw [ok.regime.enteringRun_regime off]; rfl
    have num (q : Param) : s.enteringRun.num q = s.num q := State.num_congr (by simp [State.enteringRun]) q
    rw [entering, State.enterRun_alloc, State.cyclePeriod_eq_of_entry first, num, num]
  · rw [entering, (guards.enterRun off).shed, ← entering, State.shedWanted]
    refine congrArg (allZones.any ·) (funext fun z => ?_)
    rw [zone, State.guardAction_congr tParams, shed]
    cases trips z <;> rfl
  · rw [State.demand_congr tDemands, armed.demand, synth, State.syntheticDemand_congr params, State.demand_congr demands]
    rfl
  · rw [State.demand_congr tDemands, armed.posted, State.demand_congr demands]
  · have tAge : t.age = s.guardsArmed.age := by rw [ran]; simp
    rw [tAge, armed.age, show s.entered.entrySynthetic = synthetic from funext synth]
    simp [State.entered, State.enteringRun]
  · rw [entering, State.enterRun_out, PwmChannel.unforced_eq]
  · have marks : (t.port p).flags = flags p := by
      have port : s.guardsArmed.clearForces.port p = s.guardsArmed.port p := State.port_congr (by simp) p
      have entry : (s.entered.port p).flags = (s.port p).flags ||| Notice.regime.mask := s.enteringRun_flags p
      rw [ran, State.notifyAll_port, LinkPort.withFlags_flags, port, armed.flags, entry, or_swap]
      refine congrArg (fun f : Zone → Bool => (s.port p).flags ||| Notice.regime.mask ||| Notice.setup.mask |||
        if allZones.any f then Notice.guard.mask else 0#9) (funext fun z => ?_)
      rw [hit, State.guardAction_congr params, shed]
    exact ok.ports.port_of_told (entering ▸ s.told_enterRun) (by rw [entering]; simp) marks
  · apply State.eq_of_fields <;> simp [entering]

end

end Sys2Proof.Machine
end

section
/-!
PROOFS. The paths of the mode valve and the protect bypass (R52, R53, R61).
-/

namespace Sys2Proof.Machine

/-! ## The paths of a mode (R52) -/

theorem modePaths_radM (m : Mode) : (modePaths m).radM = (m != .scavenge) := by cases m <;> rfl

theorem modePaths_radB (m : Mode) : (modePaths m).radB = (m == .series) := by cases m <;> rfl

theorem modePaths_scav (m : Mode) : (modePaths m).scav = (m == .scavenge) := by cases m <;> rfl

theorem modePaths_eq (m : Mode) : modePaths m = { radM := m != .scavenge, radB := m == .series, scav := m == .scavenge } := by
  cases m <;> rfl

/-- A service's path is open in one mode and not in another: the three rows of R61's table. -/
theorem pathOpen_bypass_iff (z : Zone) (x : Sense) (c m : Mode) :
    pathOpen z x (modePaths c) = true ∧ pathOpen z x (modePaths m) = false ↔
      (z = .motor ∧ x = .cool) ∧ c ≠ .scavenge ∧ m = .scavenge ∨
        (z = .battery ∧ x = .cool) ∧ c = .series ∧ m ≠ .series ∨
        (z = .battery ∧ x = .heat) ∧ c = .scavenge ∧ m ≠ .scavenge := by
  cases z <;> cases x
  case motor.cool => simp [pathOpen, modePaths_radM]
  case battery.cool => simp [pathOpen, modePaths_radB]
  case battery.heat => simp [pathOpen, modePaths_scav]
  case motor.heat => simp [pathOpen]
  case cabin.cool => simp [pathOpen]
  case cabin.heat => simp [pathOpen]

/-! ## The demands that count (R16) -/

theorem exists_postedIx_iff (i : Fin 15) : (∃ z k, i = postedIx z k) ↔ i ≠ gIx (zoneOfIx i) := by
  constructor
  · rintro ⟨z, k, rfl⟩
    rw [zoneOfIx_postedIx]
    exact postedIx_ne_gIx z z k
  · intro posted
    rcases slot_cases i with slot | ⟨z, rfl⟩
    · exact slot
    · exact absurd (by rw [zoneOfIx_gIx]) posted

theorem State.opposedBySynthetic_iff (s : State) (i : Fin 15) : s.opposedBySynthetic i = true ↔
    (∃ z k, i = postedIx z k) ∧ (s.demand (gIx (zoneOfIx i))).stands = true ∧
      (s.demand (gIx (zoneOfIx i))).sense ≠ (s.demand i).sense := by
  rw [exists_postedIx_iff]
  simp [State.opposedBySynthetic, and_assoc]

/-- Settles O24. -/
theorem pathsAndBypassFollowTheModes : Obligations.PathsAndBypassFollowTheModes := by
  constructor
  · intro v opens
    simp only [opens, Valve.availability, modePaths_eq]
    cases v.state <;> rfl
  · intro s c service opposed
    have counts (i : Fin 15) : s.opposedBySynthetic i = false ↔ ¬ opposed i := by
      rw [← Bool.not_eq_true, s.opposedBySynthetic_iff]
    simp only [State.bypass, List.any_eq_true, mem_allSlots, true_and, Bool.and_eq_true, beq_iff_eq, Bool.not_eq_true', counts, and_assoc]
    simp only [pathOpen_bypass_iff, service]

end Sys2Proof.Machine
end

section
/-!
PROOFS. What a cycle expiry publishes, part by part: the grant set, the outputs, the mode and the snapshot.
-/

namespace Sys2Proof.Machine

section
variable {s : State}

/-! ## The grant set of an expiry (R22, R45, R48) -/

theorem State.cycleBegun_eq (s : State) :
    s.cycleBegun =
      { s.settled with alloc := { s.settled.alloc with cycleLength := s.cyclePeriod, cycleLeft := some s.cyclePeriod } } := by
  unfold State.cycleBegun State.nextPeriod State.settleAllowance State.settled
  cases pending : s.alloc.pendingAllow with
  | none => simp only [pending]
  | some allowed => simp only [seconds_eq]

/-- The cycle timer is no part of what an allocation reads. -/
theorem State.grantSet_of_timer (s : State) (length : Nat) (left : Config.Timer) :
    { s with alloc := { s.alloc with cycleLength := length, cycleLeft := left } }.grantSet = s.grantSet := rfl

theorem State.cycleBegun_grantSet (s : State) : s.cycleBegun.grantSet = s.cycleGrants := by
  rw [State.cycleBegun_eq, State.grantSet_of_timer]
  rfl

theorem State.cycleGrants_regime (s : State) : s.cycleGrants.regime = s.regime.regime := by
  rw [← s.cycleBegun_grantSet, State.grantSet_regime]
  simp

/-! ## The outputs (R83, R136, R139) -/

/-- A setpoint moved by at most the slew: it meets its target, or moves up or down by the slew and falls short of it. -/
theorem slewed_cases (setpoint target slew : Nat) :
    (slewed setpoint target slew = target ∧ (slewed setpoint target slew : Int) - setpoint ≤ slew ∧
        (setpoint : Int) - slewed setpoint target slew ≤ slew) ∨
      (slewed setpoint target slew = setpoint + slew ∧ slewed setpoint target slew < target) ∨
      (slewed setpoint target slew + slew = setpoint ∧ target < slewed setpoint target slew) := by
  unfold slewed
  split_ifs <;> omega

theorem PwmChannel.publish_eq (c : PwmChannel) (target slew : Nat) (r : Regime) :
    c.publish target slew r =
      { c with
        target := target
        setpoint := if r = .dormant then c.setpoint else slewed c.setpoint target slew
        pendingDuty := if r = .dormant ∨ c.force ≠ none then c.pendingDuty else some (slewed c.setpoint target slew) } := by
  unfold PwmChannel.publish
  by_cases asleep : r = .dormant
  · simp [asleep]
  · cases force : c.force <;> simp [asleep]

/-- Settles O22. -/
theorem cycleExpiryMovesTheOutputs : Obligations.CycleExpiryMovesTheOutputs := by
  intro s due
  refine ⟨s.runCycle, exec_cycleExpiry_of_due due, ?_⟩
  have regime := s.cycleGrants_regime
  have out (c : PwmCh) := s.runCycle_out c
  rw [s.cycleBegun_grantSet, ← regime] at out
  generalize s.cycleGrants = grants at out
  intro g floorM floorB heater target c sp
  have motor : s.pumpFloor .motor grants.regime = floorM := by
    simp only [floorM, g]
    cases grants.regime <;> rfl
  have battery : s.pumpFloor .battery grants.regime = floorB := by
    simp only [floorB, g]
    cases grants.regime <;> rfl
  have aim : s.targetOf grants c = target c := by
    cases c
    case pumpM => exact congrArg (max · _) motor
    case pumpB => exact congrArg (max · _) battery
    all_goals rfl
  have moved := out c
  rw [aim] at moved
  have setpoint : sp = if g.regime = .dormant then (s.out c).setpoint else slewed (s.out c).setpoint (target c) (s.num (slewParam c)) :=
    (congrArg PwmChannel.setpoint moved).trans (by rw [PwmChannel.publish_eq])
  refine ⟨?_, fun asleep => by rw [setpoint, if_pos asleep], fun awake => ?_⟩
  · rw [moved, PwmChannel.publish_eq, setpoint]
    by_cases asleep : grants.regime = .dormant
    · simp only [g, if_pos asleep, if_pos (Or.inl asleep)]
    · simp only [g, if_neg asleep]
  · rw [setpoint, if_neg awake]
    exact slewed_cases ..

/-! ## From the publication to the end of the expiry -/

/-- The snapshot appended at a publication (R176). -/
def State.atSnapshot (s : State) : State := s.atPublication.appendSnapshot (s.atPublication.snapshotOf s.cycleBegun.grantSet)

theorem State.told_runCycle (s : State) : s.atSnapshot.Told s.runCycle := by
  rw [State.runCycle_eq_judgeLoops, State.atJudgement_eq]
  exact (State.told_judgeLoop _ _ _).comp <| (State.told_judgeLoop _ _ _).comp <| (State.told_selectMode _).comp <|
    .of_ports (by simp [State.atSnapshot])

theorem State.runCycle_ring (s : State) : s.runCycle.ring = s.atSnapshot.ring := by
  rw [State.runCycle_eq_judgeLoops, State.atJudgement_eq]
  simp [State.judgeLoops, State.atSnapshot]

/-! ## The snapshot (R176) -/

theorem State.appendSnapshot_ring (s : State) (x : Snapshot) : (s.appendSnapshot x).ring =
    { records := (if decide (32 ≤ s.ring.records.length) then s.ring.records.tail else s.ring.records) ++ [x]
      appended := s.ring.appended + 1 } := by
  unfold State.appendSnapshot
  by_cases room : s.ring.records.length < 32
  · rw [if_pos room, if_neg (by simpa using room)]
  · rw [if_neg room, if_pos (by simpa using room)]

theorem State.appendSnapshot_port (s : State) (x : Snapshot) (p : Port) : (s.appendSnapshot x).port p =
    (let hit := decide (32 ≤ s.ring.records.length) && (s.port p).cursor == s.ring.appended + 1 - s.ring.records.length
    { s.port p with
      cursor := if hit then (s.port p).cursor + 1 else (s.port p).cursor
      overrun := (s.port p).overrun || hit }) := by
  unfold State.appendSnapshot
  by_cases room : s.ring.records.length < 32
  · rw [if_pos room, decide_eq_false (by omega)]
    simp [State.port]
  · rw [if_neg room, decide_eq_true (by omega)]
    refine (get_mapTable ..).trans ?_
    change (s.port p).dropRecord _ = _
    unfold LinkPort.dropRecord
    by_cases own : (s.port p).cursor = s.ring.appended + 1 - s.ring.records.length
    · simp [own]
    · rw [if_neg own, beq_eq_false_iff_ne.mpr own]
      simp

/-- Settles O26. -/
theorem cycleExpiryAppendsASnapshot : Obligations.CycleExpiryAppendsASnapshot := by
  intro s due
  refine ⟨s.runCycle, exec_cycleExpiry_of_due due, ?_⟩
  intro g x full
  have ring : s.atPublication.ring = s.ring := by simp
  have taken : s.atPublication.snapshotOf s.cycleBegun.grantSet = x := by
    have valve : s.atPublication.valve = s.valve := by simp
    rw [State.snapshotOf, valve, State.cycleBegun_grantSet, State.cycleGrants_regime]
  constructor
  · rw [State.runCycle_ring, State.atSnapshot, State.appendSnapshot_ring, taken, ring]
  · intro p hit
    have found := (s.told_atPublication p).kept.1
    have ends := (s.told_runCycle p).kept.1
    rw [ends, State.atSnapshot, State.appendSnapshot_port, ring, found]
    exact ⟨rfl, rfl⟩

/-! ## Mode selection (R57, R58, R60) -/

section
variable {t : State}

/-- What mode selection reads: which demands stand, their senses and tiers, the temperatures and the parameters. -/
theorem State.candidate_congr (stands : ∀ i, (t.demand i).stands = (s.demand i).stands)
    (sense : ∀ i, (t.demand i).sense = (s.demand i).sense) (tier : ∀ i, (t.demand i).tier = (s.demand i).tier)
    (temps : t.temps = s.temps) (params : t.params = s.params) : t.candidate = s.candidate := by
  have selection : t.selectionSense = s.selectionSense := by simp only [State.selectionSense, stands, sense]
  have motor : t.protectMotorCool = s.protectMotorCool := by simp only [State.protectMotorCool, stands, sense, tier]
  have series : t.seriesWanted = s.seriesWanted := by
    simp only [State.seriesWanted, selection, State.usable_congr temps, State.tempValue_congr temps, State.num_congr params]
  have scavenge : t.scavengeWanted = s.scavengeWanted := by
    simp only [State.scavengeWanted, selection, motor, State.usable_congr temps, State.tempValue_congr temps, State.num_congr params]
  rw [State.candidate, State.candidate, series, scavenge]

theorem State.bypass_congr (stands : ∀ i, (t.demand i).stands = (s.demand i).stands)
    (sense : ∀ i, (t.demand i).sense = (s.demand i).sense) (tier : ∀ i, (t.demand i).tier = (s.demand i).tier)
    (valve : t.valve = s.valve) (c : Mode) : t.bypass c = s.bypass c := by
  simp only [State.bypass, State.opposedBySynthetic, stands, sense, tier, valve]

end

/-- A SETTLED valve leaves its mode (R60). -/
def State.moves (s : State) : Bool :=
  s.valve.state == .settled && s.candidate != s.valve.toMode && (s.valve.dwell == none || s.bypass s.candidate)

theorem State.selectMode_eq (s : State) : s.selectMode =
    if s.moves then
      State.notifyAll { s with valve := s.valve.travelling s.valve.toMode s.candidate 1 (s.num .travelMax) s.valveAt } .mode
    else s := by
  rw [State.selectMode, State.beginTravel_eq]
  exact if_congr (by simp [State.moves, and_assoc]) rfl rfl

theorem State.selectMode_mode (s : State) (p : Port) : (s.selectMode.port p).flag .mode = ((s.port p).flag .mode || s.moves) := by
  rw [State.selectMode_eq]
  cases s.moves
  · exact (Bool.or_false _).symm
  · rw [if_pos rfl, State.notifyAll_port, LinkPort.flag_withFlags_mask]
    rfl

/-- Past the judgement no flag changes but SHORTFALL, and GUARD and REGIME by a guard's evaluation (R114, R127, R84). -/
theorem State.judgeLoop_flag_of_ne (s : State) {n : Notice} (noShortfall : n ≠ .shortfall) (noGuard : n ≠ .guard)
    (noRegime : n ≠ .regime) (l : Loop) (settled : Bool) (p : Port) :
    ((s.judgeLoop l settled).port p).flag n = (s.port p).flag n := by
  unfold State.judgeLoop
  dsimp only
  rw [State.withConditions_flag_of_ne noGuard noRegime]
  split
  · rw [State.notify_flag_of_ne _ noShortfall]
    rfl
  · rfl

theorem State.runCycle_flag_of_ne (s : State) {n : Notice} (noShortfall : n ≠ .shortfall) (noGuard : n ≠ .guard)
    (noRegime : n ≠ .regime) (p : Port) : (s.runCycle.port p).flag n = (s.atJudgement.port p).flag n := by
  rw [State.runCycle_eq_judgeLoops, State.judgeLoops, State.judgeLoop_flag_of_ne _ noShortfall noGuard noRegime,
    State.judgeLoop_flag_of_ne _ noShortfall noGuard noRegime]

/-! ## What a write-back leaves of a demand (R16) -/

theorem Demand.writeBack_tier (d : Demand) (e : GrantEntry) (limit : Nat) : (d.writeBack e limit).tier = d.tier := by
  unfold Demand.writeBack
  split_ifs <;> rfl

theorem State.atPublication_demand (s : State) (i : Fin 15) :
    s.atPublication.demand i = (s.cycleBegun.writeBackAll s.cycleBegun.grantSet).demand i :=
  State.demand_congr (by simp [State.atPublication]) i

/-- What no write-back of an entry changes stands as it stood before the expiry. -/
theorem State.atPublication_keeps {α : Type} (f : Demand → α) (keeps : ∀ d e limit, f (Demand.writeBack d e limit) = f d) (s : State)
    (i : Fin 15) : f (s.atPublication.demand i) = f (s.demand i) := by
  have entry (t : State) (e : GrantEntry) : f ((t.writeBackEntry e).demand i) = f (t.demand i) := by
    rw [State.writeBackEntry_demand]
    split
    next own => rw [keeps, own]
    next => rfl
  rw [State.atPublication_demand]
  refine (foldl_keeps (fun t : State => f (t.demand i)) State.writeBackEntry entry _ _).trans ?_
  exact congrArg f (State.demand_congr (by simp) i)

theorem State.atPublication_port (s : State) (p : Port) :
    s.atPublication.port p = (s.cycleBegun.writeBackAll s.cycleBegun.grantSet).port p :=
  State.port_congr (by simp [State.atPublication]) p

theorem State.atPublication_flag_of_ne (s : State) {n : Notice} (noStarve : n ≠ .starve) (p : Port) :
    (s.atPublication.port p).flag n = (s.port p).flag n := by
  rw [State.atPublication_port, State.writeBackAll_flag_of_ne _ noStarve]
  exact congrArg (LinkPort.flag · n) (State.port_congr (by simp) p)

/-- Settles O23. -/
theorem cycleExpirySelectsTheMode : Obligations.CycleExpirySelectsTheMode := by
  intro s due
  refine ⟨s.runCycle, exec_cycleExpiry_of_due due, ?_⟩
  intro moves
  let found := s.atSnapshot.publishOutputs s.cycleBegun.grantSet
  have judged : s.atJudgement = found.selectMode := s.atJudgement_eq
  have demand (i : Fin 15) : found.demand i = s.atPublication.demand i := State.demand_congr (by simp [found, State.atSnapshot]) i
  have stands (i : Fin 15) : (found.demand i).stands = (s.demand i).stands := by rw [demand, State.atPublication_stands]
  have sense (i : Fin 15) : (found.demand i).sense = (s.demand i).sense := by
    rw [demand, State.atPublication_keeps Demand.sense Demand.writeBack_sense]
  have tier (i : Fin 15) : (found.demand i).tier = (s.demand i).tier := by
    rw [demand, State.atPublication_keeps Demand.tier Demand.writeBack_tier]
  have valve : found.valve = s.valve := by simp [found, State.atSnapshot]
  have valveAt : found.valveAt = s.valveAt := by simp [found, State.atSnapshot]
  have params : found.params = s.params := by simp [found, State.atSnapshot]
  have candidate : found.candidate = s.candidate :=
    State.candidate_congr stands sense tier (by simp [found, State.atSnapshot]) params
  have moved : found.moves = moves := by
    rw [State.moves, candidate, State.bypass_congr stands sense tier valve, valve]
  refine ⟨?_, fun p => ?_⟩
  · have kept : s.runCycle.valve = found.selectMode.valve := by
      rw [State.runCycle_eq_judgeLoops, judged]
      simp [State.judgeLoops]
    rw [kept, State.selectMode_eq, moved, valve, candidate, valveAt, State.num_congr params]
    cases leaves : moves
    · exact valve
    · have other : (s.valve.toMode == s.candidate) = false := by
        simp only [moves, Bool.and_eq_true, bne_iff_ne] at leaves
        exact beq_eq_false_iff_ne.mpr leaves.1.2.symm
      simp [Valve.travelling, other]
  · have before : (found.port p).flag .mode = (s.port p).flag .mode := by
      rw [State.port_congr (s := s.atSnapshot) (by simp [found]), State.atSnapshot, State.appendSnapshot_flag,
        State.atPublication_flag_of_ne _ (by decide)]
    have flag := s.runCycle_flag_of_ne (n := .mode) (by decide) (by decide) (by decide) p
    rw [judged, State.selectMode_mode, before, moved, LinkPort.flag_eq_getLsbD, LinkPort.flag_eq_getLsbD] at flag
    exact flag

end

end Sys2Proof.Machine
end

section
/-!
PROOFS. A cycle expiry's write-back: every standing demand takes what its entry gives, and STARVE where a mark is set (R16, R17).
-/

namespace Sys2Proof.Machine

section
variable {s : State}

/-! ## The entries one after another -/

theorem State.writeBackEntry_starve (s : State) (e : GrantEntry) (p : Port) : ((s.writeBackEntry e).port p).flag .starve =
    ((s.port p).flag .starve || (zonePort (zoneOfIx e.ix) == p && (s.demand e.ix).raisesStarve e (s.num .starveLimit))) := by
  unfold State.writeBackEntry
  dsimp only
  cases raises : (s.demand e.ix).raisesStarve e (s.num .starveLimit)
  · rw [if_neg Bool.false_ne_true, Bool.and_false, Bool.or_false]
    rfl
  · rw [if_pos rfl, State.notify_flag, Bool.and_true]
    refine congrArg ((s.port p).flag .starve || ·) (Bool.eq_iff_iff.mpr ?_)
    rw [beq_self_eq_true, Bool.true_and, decide_eq_true_iff, beq_iff_eq]
    exact eq_comm

theorem foldl_writeBackEntry_absent {es : List GrantEntry} {i : Fin 15} : ∀ {s : State}, i ∉ es.map GrantEntry.ix →
    (es.foldl State.writeBackEntry s).demand i = s.demand i := by
  induction es with
  | nil => exact fun _ => rfl
  | cons e es ih =>
    intro s absent
    obtain ⟨other, absent⟩ := not_or.mp (List.mem_cons.not.mp absent)
    rw [List.foldl_cons, ih absent, State.writeBackEntry_demand, if_neg other]

/-- Entries of different slots are written back each from the demand as it stood. -/
theorem foldl_writeBackEntry_demand {es : List GrantEntry} {e : GrantEntry} : ∀ {s : State}, (es.map GrantEntry.ix).Nodup → e ∈ es →
    (es.foldl State.writeBackEntry s).demand e.ix = (s.demand e.ix).writeBack e (s.num .starveLimit) := by
  induction es with
  | nil => exact fun _ mem => absurd mem List.not_mem_nil
  | cons f es ih =>
    intro s once mem
    obtain ⟨absent, once⟩ := List.nodup_cons.mp once
    rw [List.foldl_cons]
    rcases List.mem_cons.mp mem with rfl | mem
    · rw [foldl_writeBackEntry_absent absent, State.writeBackEntry_demand, if_pos rfl]
    · have other : e.ix ≠ f.ix := fun same => absent (same ▸ List.mem_map_of_mem mem)
      rw [ih once mem, State.writeBackEntry_demand, if_neg other, State.num_congr (s := s) (by simp)]

theorem foldl_writeBackEntry_starve {es : List GrantEntry} {p : Port} : ∀ {s : State}, (es.map GrantEntry.ix).Nodup →
    ((es.foldl State.writeBackEntry s).port p).flag .starve =
      ((s.port p).flag .starve ||
        es.any fun e => zonePort (zoneOfIx e.ix) == p && (s.demand e.ix).raisesStarve e (s.num .starveLimit)) := by
  induction es with
  | nil => exact fun _ => (Bool.or_false _).symm
  | cons f es ih =>
    intro s once
    obtain ⟨absent, once⟩ := List.nodup_cons.mp once
    have later : (es.any fun e => zonePort (zoneOfIx e.ix) == p &&
          ((s.writeBackEntry f).demand e.ix).raisesStarve e ((s.writeBackEntry f).num .starveLimit)) =
        es.any fun e => zonePort (zoneOfIx e.ix) == p && (s.demand e.ix).raisesStarve e (s.num .starveLimit) := by
      rw [Bool.eq_iff_iff, List.any_eq_true, List.any_eq_true]
      refine exists_congr fun e => and_congr_right fun mem => ?_
      have other : e.ix ≠ f.ix := fun same => absent (same ▸ List.mem_map_of_mem mem)
      rw [State.writeBackEntry_demand, if_neg other, State.num_congr (s := s) (by simp)]
    rw [List.foldl_cons, ih once, later, State.writeBackEntry_starve, List.any_cons, Bool.or_assoc]

/-! ## The publication -/

theorem State.cycleGrants_once (s : State) : (s.cycleGrants.entries.map GrantEntry.ix).Nodup := by
  rw [State.cycleGrants, State.grantSet_ix]
  exact List.Nodup.filter _ (by decide)

theorem State.atPublication_writtenBack {e : GrantEntry} (mem : e ∈ s.cycleGrants.entries) :
    s.atPublication.demand e.ix = (s.demand e.ix).writeBack e (s.num .starveLimit) := by
  have begun : s.cycleBegun.demand e.ix = s.demand e.ix := State.demand_congr (by simp) _
  have limit : s.cycleBegun.num .starveLimit = s.num .starveLimit := State.num_congr (by simp) _
  rw [State.atPublication_demand, State.cycleBegun_grantSet, State.writeBackAll, foldl_writeBackEntry_demand s.cycleGrants_once mem,
    begun, limit]

theorem State.atPublication_free {i : Fin 15} (free : (s.demand i).stands = false) : s.atPublication.demand i = s.demand i := by
  have begun (i : Fin 15) : s.cycleBegun.demand i = s.demand i := State.demand_congr (by simp) i
  have absent : i ∉ s.cycleBegun.grantSet.entries.map GrantEntry.ix := by
    rw [State.grantSet_ix, List.mem_filter, begun, free]
    exact fun listed => Bool.false_ne_true listed.2
  rw [State.atPublication_demand, State.writeBackAll, foldl_writeBackEntry_absent absent, begun]

theorem State.atPublication_starve (s : State) (p : Port) : (s.atPublication.port p).flag .starve =
    ((s.port p).flag .starve || s.cycleGrants.entries.any fun e =>
      zonePort (zoneOfIx e.ix) == p && (s.demand e.ix).raisesStarve e (s.num .starveLimit)) := by
  have begun (i : Fin 15) : s.cycleBegun.demand i = s.demand i := State.demand_congr (by simp) i
  have limit : s.cycleBegun.num .starveLimit = s.num .starveLimit := State.num_congr (by simp) _
  have port : s.cycleBegun.port p = s.port p := State.port_congr (by simp) p
  rw [State.atPublication_port, State.cycleBegun_grantSet, State.writeBackAll, foldl_writeBackEntry_starve s.cycleGrants_once, limit,
    port]
  simp only [begun]

/-! ## What the judgement leaves of the Demand Table -/

/-- An evaluation that leaves its guard as it was leaves the zone's G slot as it was (R125). -/
theorem State.evaluate_demand_of_guard (s : State) (z : Zone) (kept : ((s.evaluate z).zone z).guard = (s.zone z).guard) (i : Fin 15) :
    (s.evaluate z).demand i = s.demand i := by
  obtain ⟨e, -⟩ | ⟨armed, -, e⟩ | ⟨tripped, -, e⟩ := s.evaluate_cases z
  · rw [e]
  · rw [e, State.trip_zone, if_pos rfl, armed] at kept
    exact GuardState.noConfusion kept
  · rw [e, State.returnToMatch_zone, if_pos rfl, tripped] at kept
    exact GuardState.noConfusion kept

theorem State.withConditions_demand (s : State) (z : Zone) (c : Conditions) {i : Fin 15}
    (kept : i = gIx z → ((s.withConditions z c).zone z).guard = (s.zone z).guard) : (s.withConditions z c).demand i = s.demand i := by
  unfold State.withConditions at kept ⊢
  split at kept
  next same => rw [if_pos same]
  next new =>
    rw [if_neg new]
    by_cases own : i = gIx z
    · refine State.evaluate_demand_of_guard _ z ((kept own).trans ?_) i
      rw [State.zone_setZone, if_pos rfl]
    · exact State.evaluate_demand_of_ne _ z own

theorem State.judgeLoop_demand (s : State) (l : Loop) (settled : Bool) {i : Fin 15}
    (kept : i = gIx (loopZone l) → ((s.judgeLoop l settled).zone (loopZone l)).guard = (s.zone (loopZone l)).guard) :
    (s.judgeLoop l settled).demand i = s.demand i := by
  unfold State.judgeLoop at kept ⊢
  dsimp only at kept ⊢
  rw [State.withConditions_demand _ _ _ fun own => (kept own).trans (congrArg ZoneMonitor.guard ?_)]
  · split <;> exact State.demand_congr (by simp) i
  · split <;> exact (State.zone_congr (by simp) _).symm

theorem State.judgeLoop_zone_of_ne (s : State) (l : Loop) (settled : Bool) {y : Zone} (other : y ≠ loopZone l) :
    (s.judgeLoop l settled).zone y = s.zone y :=
  (s.judgeLoop_wokenBy l settled).others y other

/-- A slot is as the publication left it, unless it is the G of a guard that acted in the judgement (R122, R125). -/
theorem State.runCycle_demand (s : State) {i : Fin 15} (kept : ∀ z, i = gIx z → (s.runCycle.zone z).guard = (s.zone z).guard) :
    s.runCycle.demand i = s.atPublication.demand i := by
  let motor := s.atJudgement.judgeLoop .motor (s.valve.state == .settled)
  have zones (z : Zone) : s.atJudgement.zone z = s.zone z := State.zone_congr (by simp) z
  have ran : s.runCycle = motor.judgeLoop .battery (s.valve.state == .settled) := s.runCycle_eq_judgeLoops
  have first : motor.demand i = s.atJudgement.demand i := by
    refine State.judgeLoop_demand _ _ _ fun own => ?_
    have same := kept .motor own
    rw [ran, State.judgeLoop_zone_of_ne _ _ _ (by decide)] at same
    exact same.trans (congrArg _ (zones .motor).symm)
  have second : s.runCycle.demand i = motor.demand i := by
    rw [ran]
    refine State.judgeLoop_demand _ _ _ fun own => ?_
    have same := kept .battery own
    rw [ran] at same
    refine same.trans (congrArg _ ?_)
    exact ((State.judgeLoop_zone_of_ne s.atJudgement .motor _ (by decide)).trans (zones .battery)).symm
  rw [second, first, State.atJudgement_eq]
  exact State.demand_congr (by simp) i

/-- Settles O21. -/
theorem cycleExpiryWritesDemandsBack : Obligations.CycleExpiryWritesDemandsBack := by
  intro s due
  refine ⟨s.runCycle, exec_cycleExpiry_of_due due, ?_⟩
  intro after untouched
  have published {i : Fin 15} (kept : untouched i) : s.runCycle.demand i = s.atPublication.demand i := by
    refine s.runCycle_demand fun z own => ?_
    subst own
    have same := kept (by rw [zoneOfIx_gIx])
    rwa [zoneOfIx_gIx] at same
  refine ⟨fun e mem kept => ?_, fun i free kept => ?_, fun p => ?_⟩
  · rw [published kept, State.atPublication_writtenBack mem]
    rfl
  · rw [published kept, State.atPublication_free free]
  · have flag := s.runCycle_flag_of_ne (n := .starve) (by decide) (by decide) (by decide) p
    rw [State.atJudgement_eq, State.selectMode_flag_of_ne _ (by decide), State.port_congr (State.publishOutputs_frame ..).1,
      State.appendSnapshot_flag, State.atPublication_starve, LinkPort.flag_eq_getLsbD, LinkPort.flag_eq_getLsbD] at flag
    refine flag.trans (congrArg _ (congrArg (s.cycleGrants.entries.any ·) (funext fun e => ?_)))
    exact (Bool.and_assoc ..).symm

end

end Sys2Proof.Machine
end

section
/-!
PROOFS. A cycle expiry as a whole: the records and the SHORTFALL of both loops can be written before the first of the two zones is
given its conditions, because no guard's evaluation reads them (R109 to R114, R125).
-/

namespace Sys2Proof.Machine

/-! ## What no guard reads -/

/-- A part with its ports marked and its delivered heat recorded. -/
def State.besides (s : State) (f : Vector LinkPort 3 → Vector LinkPort 3) (g : Vector DeliveredRecord 2 → Vector DeliveredRecord 2) :
    State :=
  { s with ports := f s.ports, delivered := g s.delivered }

/-- A marking of the ports that keeps their presence, and that it is all one to set before or after a notice. -/
structure PortMarking (f : Vector LinkPort 3 → Vector LinkPort 3) : Prop where
  presence : ∀ ports i, ((f ports).get i).presence = (ports.get i).presence
  notify : ∀ (s : State) g n p, (s.besides f g).notify n p = (s.notify n p).besides f g

theorem PortMarking.unmarked : PortMarking id := ⟨fun _ _ => rfl, fun _ _ _ _ => rfl⟩

section
variable {f : Vector LinkPort 3 → Vector LinkPort 3} {g : Vector DeliveredRecord 2 → Vector DeliveredRecord 2}
variable (h : PortMarking f) (s : State) (z : Zone)
include h

/-! ## The Regime Controller's operations -/

theorem PortMarking.notifyAll (n : Notice) : (s.besides f g).notifyAll n = (s.notifyAll n).besides f g := by
  simp only [State.notifyAll, h.notify]

theorem PortMarking.changeRegime (r : Regime) : (s.besides f g).changeRegime r = (s.changeRegime r).besides f g := by
  unfold State.changeRegime
  by_cases same : s.regime.regime = r
  · rw [if_pos same]
    exact if_pos same
  · rw [if_neg same, ← h.notifyAll]
    exact if_neg same

theorem PortMarking.chargeVote : (s.besides f g).chargeVote = s.chargeVote :=
  congrArg (fun x : Presence => s.regime.voteB == .charge && x == .present) (h.presence s.ports (portIx .B))

theorem PortMarking.driveVote : (s.besides f g).driveVote = s.driveVote :=
  congrArg (fun x : Presence => s.regime.voteM == .drive && x == .present) (h.presence s.ports (portIx .M))

theorem PortMarking.settleChargePending : (s.besides f g).settleChargePending = s.settleChargePending.besides f g := by
  rw [State.settleChargePending, h.chargeVote]
  rfl

theorem PortMarking.resolvedRegime : (s.besides f g).resolvedRegime = s.resolvedRegime := by
  simp only [State.resolvedRegime, State.chargeCondition, h.chargeVote, h.driveVote]
  rfl

theorem PortMarking.resolve : (s.besides f g).resolve = s.resolve.besides f g := by
  unfold State.resolve
  dsimp only
  rw [h.settleChargePending, h.resolvedRegime, h.changeRegime]

omit h in
theorem State.besides_dormantUpkeep : (s.besides f g).dormantUpkeep = s.dormantUpkeep.besides f g := by
  rw [State.dormantUpkeep_eq, State.dormantUpkeep_eq]
  rfl

omit h in
theorem State.besides_writeDemand (i : Fin 15) (d : Demand) (keep : Bool) :
    (s.besides f g).writeDemand i d keep = (s.writeDemand i d keep).besides f g :=
  State.besides_dormantUpkeep
    { s.setDemand i d with age := if (s.demand i).stands = true ∧ keep = true then s.age else s.age.erase i ++ [i] }

omit h in
theorem State.besides_freeSlot (i : Fin 15) : (s.besides f g).freeSlot i = (s.freeSlot i).besides f g :=
  State.besides_dormantUpkeep { s.setDemand i Demand.freeSlot with age := s.age.erase i }

/-! ## The guard's operations -/

theorem PortMarking.tripAction : (s.besides f g).tripAction z = (s.tripAction z).besides f g := by
  have action : (s.besides f g).guardAction z = s.guardAction z := rfl
  unfold State.tripAction
  rw [action]
  cases s.guardAction z with
  | notice => rfl
  | synth => exact s.besides_writeDemand (gIx z) (s.syntheticDemand z) true
  | shed => exact h.notifyAll s _

theorem PortMarking.tripAwake : (s.besides f g).tripAwake z = (s.tripAwake z).besides f g := by
  let tripped := s.setZone z { s.zone z with guard := .tripped, trips := min 255 ((s.zone z).trips + 1) }
  have noticed : (tripped.besides f g).notify .guard (zonePort z) = (tripped.notify .guard (zonePort z)).besides f g := h.notify ..
  have acted := h.tripAction (g := g) (tripped.notify .guard (zonePort z)) z
  rw [← noticed] at acted
  exact congrArg State.shedUpkeep acted

theorem PortMarking.trip : (s.besides f g).trip z = (s.trip z).besides f g := by
  unfold State.trip
  by_cases asleep : s.regime.regime = .dormant
  · rw [if_pos asleep, ← h.resolve, ← h.tripAwake, ← h.changeRegime]
    exact if_pos asleep
  · rw [if_neg asleep, ← h.tripAwake]
    exact if_neg asleep

omit h in
theorem State.besides_withdrawSynthetic : (s.besides f g).withdrawSynthetic z = (s.withdrawSynthetic z).besides f g := by
  unfold State.withdrawSynthetic
  by_cases stands : (s.demand (gIx z)).stands = true
  · rw [if_pos stands]
    exact (if_pos stands).trans (s.besides_freeSlot (gIx z))
  · rw [if_neg stands]
    exact if_neg stands

omit h in
theorem State.besides_endSynth (old : GuardAction) : (s.besides f g).endSynth z old = (s.endSynth z old).besides f g := by
  cases old with
  | notice => rfl
  | synth => exact s.besides_withdrawSynthetic z
  | shed => rfl

omit h in
theorem State.besides_returnToMatch (old : GuardAction) :
    (s.besides f g).returnToMatch z old = (s.returnToMatch z old).besides f g :=
  congrArg State.shedUpkeep (State.besides_endSynth (s.setZone z { s.zone z with guard := .armed }) z old)

theorem PortMarking.evaluate : (s.besides f g).evaluate z = (s.evaluate z).besides f g := by
  have guard : (s.besides f g).zone z = s.zone z := rfl
  have hit : (s.besides f g).guardMatches z = s.guardMatches z := rfl
  unfold State.evaluate
  rw [guard, hit]
  cases (s.zone z).guard with
  | unarmed => rfl
  | armed =>
    cases s.guardMatches z
    · exact h.trip s z
    · rfl
  | tripped =>
    cases s.guardMatches z
    · rfl
    · exact s.besides_returnToMatch z _

/-- Conditions given before or after the ports are marked and the heat recorded leave the same. -/
theorem PortMarking.withConditions (c : Conditions) : (s.besides f g).withConditions z c = (s.withConditions z c).besides f g := by
  unfold State.withConditions
  by_cases same : (s.zone z).cond = c
  · rw [if_pos same]
    exact if_pos same
  · rw [if_neg same, ← h.evaluate]
    exact if_neg same

end

/-! ## A loop's record and its SHORTFALL -/

theorem State.notify_comm (s : State) (m n : Notice) (p q : Port) : (s.notify n p).notify m q = (s.notify m q).notify n p := by
  have ports : ((s.notify n p).notify m q).ports = ((s.notify m q).notify n p).ports := State.ports_ext fun r => by
    simp only [State.notify_port]
    by_cases one : r = p
    · by_cases two : r = q
      · simp only [if_pos one, if_pos two, LinkPort.withFlags_flags, or_swap (s.port r).flags n.mask]
        rfl
      · simp only [if_pos one, if_neg two]
    · simp only [if_neg one]
  apply State.eq_of_fields ports <;> simp

/-- The ports with a notice set on one of them. -/
def markPort (n : Notice) (p : Port) (ports : Vector LinkPort 3) : Vector LinkPort 3 :=
  put ports (portIx p) ((ports.get (portIx p)).withFlags ((ports.get (portIx p)).flags ||| n.mask))

theorem PortMarking.mark (n : Notice) (p : Port) : PortMarking (markPort n p) where
  presence ports i := by
    rw [markPort, get_put]
    split
    next own => rw [own]; rfl
    next => rfl
  notify s g m q := (s.besides id g).notify_comm m n p q

/-- A loop's record, with SHORTFALL on its port where SHORT goes from clear to set (R110 to R114). -/
def State.judgeTold (s : State) (l : Loop) (r : DeliveredRecord) (raised : Bool) : State :=
  if raised then (s.setRecord l r).notify .shortfall (zonePort (loopZone l)) else s.setRecord l r

theorem State.withConditions_judgeTold (s : State) (z : Zone) (c : Conditions) (l : Loop) (r : DeliveredRecord) (raised : Bool) :
    (s.withConditions z c).judgeTold l r raised = (s.judgeTold l r raised).withConditions z c := by
  cases raised
  · exact (PortMarking.unmarked.withConditions (g := fun d => put d (loopIx l) r) s z c).symm
  · exact ((PortMarking.mark .shortfall (zonePort (loopZone l))).withConditions (g := fun d => put d (loopIx l) r) s z c).symm

@[simp] theorem State.judgeTold_frame (s : State) (l : Loop) (r : DeliveredRecord) (raised : Bool) :
    (s.judgeTold l r raised).demands = s.demands ∧ (s.judgeTold l r raised).age = s.age ∧ (s.judgeTold l r raised).alloc = s.alloc ∧
    (s.judgeTold l r raised).valve = s.valve ∧ (s.judgeTold l r raised).regime = s.regime ∧
    (s.judgeTold l r raised).temps = s.temps ∧ (s.judgeTold l r raised).flows = s.flows ∧
    (s.judgeTold l r raised).zones = s.zones ∧ (s.judgeTold l r raised).shed = s.shed ∧ (s.judgeTold l r raised).pwm = s.pwm ∧
    (s.judgeTold l r raised).params = s.params ∧ (s.judgeTold l r raised).setup = s.setup ∧
    (s.judgeTold l r raised).ring = s.ring ∧ (s.judgeTold l r raised).resetRecord = s.resetRecord ∧
    (s.judgeTold l r raised).hvReady = s.hvReady ∧ (s.judgeTold l r raised).valveAt = s.valveAt ∧
    (s.judgeTold l r raised).pending = s.pending ∧ (s.judgeTold l r raised).timeBase = s.timeBase := by
  unfold State.judgeTold
  split <;> simp

theorem State.told_judgeTold (s : State) (l : Loop) (r : DeliveredRecord) (raised : Bool) : s.Told (s.judgeTold l r raised) := by
  unfold State.judgeTold
  split
  · exact (State.told_notify _ (by decide) _).comp (.of_ports (by simp))
  · exact .of_ports (by simp)

theorem State.judgeTold_flag_of_ne (s : State) {n : Notice} (other : n ≠ .shortfall) (l : Loop) (r : DeliveredRecord) (raised : Bool)
    (p : Port) : ((s.judgeTold l r raised).port p).flag n = (s.port p).flag n := by
  unfold State.judgeTold
  split
  · exact State.notify_flag_of_ne _ other _ p
  · rfl

/-! ## Both loops judged, then both zones given their conditions -/

/-- SHORT goes from clear to set (R114). -/
def State.raisesShort (s : State) (l : Loop) (settled : Bool) : Bool :=
  s.shortAfter l settled && !(s.zone (loopZone l)).cond.short

/-- Both loops' records and notices, before a guard acts on them. -/
def State.judgedBoth (s : State) (settled : Bool) : State :=
  (s.judgeTold .motor (s.judged .motor settled) (s.raisesShort .motor settled)).judgeTold .battery (s.judged .battery settled)
    (s.raisesShort .battery settled)

theorem State.judgeLoop_eq (s : State) (l : Loop) (settled : Bool) : s.judgeLoop l settled =
    (s.judgeTold l (s.judged l settled) (s.raisesShort l settled)).withConditions (loopZone l)
      { (s.zone (loopZone l)).cond with short := s.shortAfter l settled } := rfl

theorem State.judgeLoops_eq (s : State) (settled : Bool) : s.judgeLoops settled =
    ((s.judgedBoth settled).withConditions .motor ((s.judgeLoops settled).zone .motor).cond).withConditions .battery
      ((s.judgeLoops settled).zone .battery).cond := by
  have alike : (s.judgeLoop .motor settled).JudgedAlike s .battery := s.judgeLoop_judgedAlike (by decide) settled
  have raises : (s.judgeLoop .motor settled).raisesShort .battery settled = s.raisesShort .battery settled := by
    rw [State.raisesShort, alike.shortAfter_eq, alike.cond]
    rfl
  have motor := s.judgeLoops_cond (l := .motor) (settled := settled)
  have battery := s.judgeLoops_cond (l := .battery) (settled := settled)
  change ((s.judgeLoops settled).zone .motor).cond = _ at motor
  change ((s.judgeLoops settled).zone .battery).cond = _ at battery
  rw [motor, battery, State.judgeLoops, State.judgeLoop_eq (s.judgeLoop .motor settled), alike.judged_eq, alike.shortAfter_eq,
    alike.cond, raises, s.judgeLoop_eq .motor, State.withConditions_judgeTold]
  rfl

/-! ## The age list -/

theorem filter_erase_of_not {α : Type} [DecidableEq α] {p : α → Bool} {a : α} (h : p a = false) (l : List α) :
    (l.erase a).filter p = l.filter p := by
  rw [← List.erase_filter, List.erase_of_not_mem (by simp [h])]

/-- The posted demands of an age list, in its order. -/
def postedAge (age : List (Fin 15)) : List (Fin 15) := age.filter fun i => i != gIx (zoneOfIx i)

theorem postedAge_append_g (age : List (Fin 15)) (z : Zone) : postedAge (age ++ [gIx z]) = postedAge age := by
  simp [postedAge]

theorem postedAge_erase_g (age : List (Fin 15)) (z : Zone) : postedAge (age.erase (gIx z)) = postedAge age :=
  filter_erase_of_not (by simp) age

end Sys2Proof.Machine
end

section
/-!
PROOFS. A cycle expiry as a whole (R22, R45, R48, R49).
-/

namespace Sys2Proof.Machine

section
variable {s : State}

/-! ## What a guard's evaluation leaves of the age list and the ports -/

theorem State.evaluate_postedAge (s : State) (z : Zone) : postedAge (s.evaluate z).age = postedAge s.age := by
  obtain ⟨e, -⟩ | ⟨-, -, e⟩ | ⟨-, -, e⟩ := s.evaluate_cases z
  · rw [e]
  · rw [e, State.trip_age]
    split
    · rw [postedAge_append_g, postedAge_erase_g]
    · rfl
  · rw [e, State.returnToMatch_age]
    split
    · exact postedAge_erase_g _ z
    · rfl

theorem State.withConditions_postedAge (s : State) (z : Zone) (c : Conditions) :
    postedAge (s.withConditions z c).age = postedAge s.age := by
  unfold State.withConditions
  split
  · rfl
  · exact State.evaluate_postedAge _ z

/-- Conditions that are as they were do nothing (R117). -/
theorem State.withConditions_of_same {z : Zone} {c : Conditions} (same : (s.zone z).cond = c) : s.withConditions z c = s := if_pos same

/-! ## The expiry up to what SHORT brings -/

/-- A cycle expiry before a guard acts on SHORT (R49, R114). -/
def State.beforeShort (s : State) : State := s.atJudgement.judgedBoth (s.valve.state == .settled)

theorem State.runCycle_eq_beforeShort (s : State) :
    s.runCycle = (s.beforeShort.withConditions .motor (s.runCycle.zone .motor).cond).withConditions .battery
      (s.runCycle.zone .battery).cond := by
  have both := s.atJudgement.judgeLoops_eq (s.valve.state == .settled)
  rwa [← State.runCycle_eq_judgeLoops] at both

/-- Posted demands keep their order in the age list (R20). -/
theorem State.runCycle_postedAge (s : State) : postedAge s.runCycle.age = postedAge s.age := by
  have age : s.beforeShort.age = s.age := by simp [State.beforeShort, State.judgedBoth, State.atJudgement_eq]
  rw [State.runCycle_eq_beforeShort, State.withConditions_postedAge, State.withConditions_postedAge, age]

theorem State.beforeShort_frame (s : State) :
    s.beforeShort = { s with
      ports := s.beforeShort.ports, demands := s.beforeShort.demands, alloc := s.runCycle.alloc, valve := s.runCycle.valve
      delivered := s.runCycle.delivered, pwm := s.runCycle.pwm, ring := s.runCycle.ring } := by
  have alloc : s.runCycle.alloc = s.beforeShort.alloc := by rw [State.runCycle_eq_beforeShort]; simp
  have valve : s.runCycle.valve = s.beforeShort.valve := by rw [State.runCycle_eq_beforeShort]; simp
  have ring : s.runCycle.ring = s.beforeShort.ring := by rw [State.runCycle_eq_beforeShort]; simp
  have delivered : s.runCycle.delivered = s.beforeShort.delivered := by rw [State.runCycle_eq_beforeShort]; simp
  have pwm : s.runCycle.pwm = s.beforeShort.pwm := by rw [State.runCycle_eq_beforeShort]; simp
  rw [alloc, valve, ring, delivered, pwm]
  apply State.eq_of_fields <;> simp [State.beforeShort, State.judgedBoth, State.atJudgement_eq]

theorem State.beforeShort_flag (s : State) {n : Notice} (noStarve : n ≠ .starve) (noShortfall : n ≠ .shortfall) (noMode : n ≠ .mode)
    (p : Port) : (s.beforeShort.port p).flag n = (s.port p).flag n := by
  rw [State.beforeShort, State.judgedBoth, State.judgeTold_flag_of_ne _ noShortfall, State.judgeTold_flag_of_ne _ noShortfall,
    State.atJudgement_flag_of_ne _ noStarve noMode]

/-- A bit of a notice set is a notice's, or stands above the nine (R167). -/
theorem exists_notice_of_bit (k : Nat) : (∃ n : Notice, n.ctorIdx = k) ∨ 9 ≤ k := by
  by_cases above : 9 ≤ k
  · exact .inr above
  · left
    interval_cases k
    exacts [⟨.lost, rfl⟩, ⟨.expired, rfl⟩, ⟨.starve, rfl⟩, ⟨.guard, rfl⟩, ⟨.shortfall, rfl⟩, ⟨.mode, rfl⟩, ⟨.regime, rfl⟩,
      ⟨.setup, rfl⟩, ⟨.allowance, rfl⟩]

theorem State.told_atJudgement (s : State) : s.atSnapshot.Told s.atJudgement := by
  rw [State.atJudgement_eq]
  exact (State.told_selectMode _).comp (.of_ports (by simp [State.atSnapshot]))

theorem State.told_beforeShort (s : State) : s.atSnapshot.Told s.beforeShort := by
  rw [State.beforeShort, State.judgedBoth]
  exact (State.told_judgeTold _ _ _ _).comp <| (State.told_judgeTold _ _ _ _).comp s.told_atJudgement

theorem State.PortsOk.beforeShort (h : s.PortsOk) : s.beforeShort.PortsOk := by
  have published : s.atPublication.PortsOk := h.told s.told_atPublication (by simp)
  have appended : s.atSnapshot.PortsOk := published.appendSnapshot _
  refine appended.told s.told_beforeShort ?_
  simp [State.beforeShort, State.judgedBoth, State.atJudgement_eq, State.atSnapshot]

/-! ## The Allocator -/

theorem State.settled_alloc (s : State) :
    s.settled.alloc.seq = s.alloc.seq ∧ s.settled.alloc.pendingAllow = none ∧ s.settled.alloc.published = s.alloc.published := by
  unfold State.settled
  cases pending : s.alloc.pendingAllow with
  | none => exact ⟨rfl, pending, rfl⟩
  | some allowed => exact ⟨rfl, rfl, rfl⟩

theorem State.cycleGrants_seq (s : State) : s.cycleGrants.seq = s.alloc.seq + 1 := congrArg (· + 1) s.settled_alloc.1

theorem State.cycleGrants_avail (s : State) : s.cycleGrants.avail = s.valve.availability := by
  have valve : s.cycleBegun.valve = s.valve := by simp
  rw [← s.cycleBegun_grantSet, ← valve]
  rfl

theorem State.runCycle_alloc_eq (s : State) : s.runCycle.alloc =
    { cycleLength := s.cyclePeriod, cycleLeft := some s.cyclePeriod, seq := s.alloc.seq + 1
      inForce := s.settled.alloc.inForce, allowLease := s.settled.alloc.allowLease, pendingAllow := none
      published := some s.cycleGrants, previous := s.alloc.published } := by
  rw [State.runCycle_alloc, State.cycleBegun_grantSet, State.cycleBegun_eq]
  simp only [s.settled_alloc.2.1]

/-- Nothing happens while the cycle timer is stopped or has time left (R22). -/
theorem exec_cycleExpiry_of_not_due (early : s.alloc.cycleLeft ≠ some 0) : exec .cycleExpiry s = .next s :=
  congrArg Host.Outcome.next (if_neg (mt ranOut_iff.mp early))

/-- Settles O20. -/
theorem cycleExpiryPublishesAGrantSet : Obligations.CycleExpiryPublishesAGrantSet := by
  intro s period
  by_cases due : s.alloc.cycleLeft = some 0
  swap
  · rw [if_pos due]
    exact exec_cycleExpiry_of_not_due due
  rw [if_neg (not_not_intro due)]
  have length : s.cyclePeriod = period := by
    simp only [period, State.cyclePeriod]
    cases s.regime.regime
    all_goals exact Nat.mul_comm ..
  have zones (z : Zone) : s.beforeShort.zone z = s.zone z :=
    State.zone_congr (by simp [State.beforeShort, State.judgedBoth]) z
  refine ⟨s.runCycle, s.beforeShort, exec_cycleExpiry_of_due due, ?_, s.cycleGrants_seq, s.cycleGrants_regime, s.cycleGrants_avail, ?_,
    fun p => ?_, ?_, ?_, ?_, ?_, fun p k noStarve noShortfall noMode => ?_, fun ok p => ?_,
    fun same => ?_⟩
  · rw [State.runCycle_alloc_eq, length]
  · apply State.eq_of_fields <;> simp
  · have found := (s.told_atPublication p).kept.1
    have ends := (s.told_runCycle p).kept.1
    rw [ends, State.atSnapshot, State.appendSnapshot_port, found]
  · exact s.runCycle_postedAge
  · rw [State.runCycle_eq_beforeShort, State.withConditions_zone_of_ne _ _ _ (by decide),
      State.withConditions_zone_of_ne _ _ _ (by decide), zones]
  · exact s.runCycle_eq_beforeShort
  · exact s.beforeShort_frame
  · obtain ⟨n, rfl⟩ | above := exists_notice_of_bit k
    · have flag := s.beforeShort_flag (n := n) (fun e => noStarve (e ▸ rfl)) (fun e => noShortfall (e ▸ rfl))
        (fun e => noMode (e ▸ rfl)) p
      rwa [LinkPort.flag_eq_getLsbD, LinkPort.flag_eq_getLsbD] at flag
    · rw [BitVec.getLsbD_of_ge _ _ above, BitVec.getLsbD_of_ge _ _ above]
  · exact (ok.beforeShort.port p).line
  · have cond (z : Zone) : (s.beforeShort.zone z).cond = (s.runCycle.zone z).cond := by rw [zones, same]
    have motor : s.beforeShort.withConditions .motor (s.runCycle.zone .motor).cond = s.beforeShort :=
      State.withConditions_of_same (cond .motor)
    have ran := s.runCycle_eq_beforeShort
    rw [motor, State.withConditions_of_same (cond .battery)] at ran
    exact ran

end

end Sys2Proof.Machine
end
